-- ==== Sys2Proof/Word.lean ====
section
/-! DEFINITION. The widths of the serial line's fields (spec/11). -/

namespace Sys2Proof

/-- One byte of a frame. -/
abbrev Byte := BitVec 8

/-- A two-byte field. -/
abbrev Half := BitVec 16

/-- A four-byte field. -/
abbrev Word := BitVec 32

end Sys2Proof
end

