-- ==== Sys2Proof/Syntax.lean ====
section
/-! DEFINITION. The commands of the block: one constructor of `Instr` for each row of spec/opcode_table.json,
and the host requests and frames they are made of (spec/11). -/

namespace Sys2Proof

/-- The four fibre pairs (spec/00, Conventions). -/
inductive Pair where
  | one | two | three | four
  deriving DecidableEq, Repr

/-- The setting of the END_SEL pin (R152). -/
inductive EndSetting where
  | endA | endB
  deriving DecidableEq, Repr

/-- What a tone field or a tone readback can carry: nothing, or one of F1..F4 (R6, R8). -/
inductive Tone where
  | off | f1 | f2 | f3 | f4
  deriving DecidableEq, Repr

/-- A host frame without its start byte, LEN and CRC (spec/11, The host frame). -/
structure Frame where
  typ     : Byte
  tag     : Byte
  payload : List Byte
  deriving DecidableEq, Repr

/-- A load record as it stands on the serial line (R187); its fields are examined by R44. -/
structure LoadRecord where
  index        : Byte
  address      : Half
  nominalLag   : Half
  halfWidth    : Byte
  driftLimit   : Byte
  baseline     : Half
  lowRatio     : Half
  highRatio    : Half
  presence     : Half
  excluded     : Byte
  deriving DecidableEq, Repr

/-- A host request with its payload fields as they stand on the line (R183, R186). A code that names nothing
can stand in a field: the rule that owns the request refuses it. -/
inductive Request where
  | identify
  | reset
  | setTime (seconds : Word) (fraction : Option Half)
  | adjustTime (offset : Half)
  | readTime
  | readEvents
  | clearEvents (selection : List Byte)
  | setNoticeMask (mask : List Byte)
  | configurePair (pair : Byte) (params : List Word)
  | readPairConfig (pair : Byte)
  | setPairMode (pair mode : Byte)
  | injectFault (pair first : Byte) (factor : Half)
  | takeRole (pair : Byte)
  | releaseRole (pair mode : Byte)
  | readRole (pair : Byte)
  | loadRepeaters (pair first : Byte) (records : List LoadRecord)
  | editRepeater (pair index changes : Byte) (low high presence baseline : Half) (excluded : Byte)
  | readRepeater (pair index : Byte)
  | readResults (pair refresh fromIndex count : Byte)
  | readTrace (pair index : Byte)
  | learnBaseline (pair target mode : Byte)
  | abortLearn (pair : Byte)
  | readLearning (pair : Byte)
  | listFaults (selector : Byte) (fromId : Half)
  | readFault (id : Half)
  | purgeFault (option : Byte) (id : Half) (selector : Byte)
  | isolate (id : Half) (action : Byte)
  | releaseIsolation (id : Half)
  | supervise (pair index command argument : Byte)
  | readQueue
  deriving DecidableEq, Repr

/-- A character received on RXD: its 8 data bits as a byte, the first received in the least significant place, and the
stop bit as the receiver read it, 1 when it reads correctly (R167). -/
structure Character where
  data    : Byte
  stopBit : Bool
  deriving DecidableEq, Repr

/-- The commands of the block, in the order of spec/opcode_table.json. A host request row carries the
request's TAG and its payload fields; a line, bank or role event carries the pair it falls on; an event that
brings a value from outside the part carries that value. -/
inductive Instr where
  | identify (tag : Byte)
  | reset (tag : Byte)
  | resetTakesEffect
  | powerOnReset (rate1 rate0 : Bool) (endSel : EndSetting)
  | setTime (tag : Byte) (seconds : Word) (fraction : Option Half)
  | adjustTime (tag : Byte) (offset : Half)
  | readTime (tag : Byte)
  | readEvents (tag : Byte)
  | clearEvents (tag : Byte) (selection : List Byte)
  | setNoticeMask (tag : Byte) (mask : List Byte)
  | configurePair (tag pair : Byte) (params : List Word)
  | readPairConfig (tag pair : Byte)
  | setPairModeDisabled (tag pair : Byte)
  | setPairModeEnabled (tag pair : Byte)
  | setPairModeSynthetic (tag pair : Byte)
  | injectFault (tag pair first : Byte) (factor : Half)
  | takeRole (tag pair : Byte)
  | releaseRole (tag pair mode : Byte)
  | readRole (tag pair : Byte)
  | loadRepeaters (tag pair first : Byte) (records : List LoadRecord)
  | editRepeater (tag pair index changes : Byte) (low high presence baseline : Half) (excluded : Byte)
  | readRepeater (tag pair index : Byte)
  | readResults (tag pair refresh fromIndex count : Byte)
  | readTrace (tag pair index : Byte)
  | learnBaseline (tag pair target mode : Byte)
  | abortLearn (tag pair : Byte)
  | readLearning (tag pair : Byte)
  | listFaults (tag selector : Byte) (fromId : Half)
  | readFault (tag : Byte) (id : Half)
  | purgeFault (tag : Byte) (id : Half)
  | purgeFaultAllCleared (tag selector : Byte)
  | isolate (tag : Byte) (id : Half) (action : Byte)
  | releaseIsolation (tag : Byte) (id : Half)
  | supervise (tag pair index command argument : Byte)
  | readQueue (tag : Byte)
  /-- A request whose TYPE names no request, or whose payload does not fit its TYPE (R171, R186). -/
  | requestUnknownType (tag typ : Byte) (payload : List Byte)
  /-- Characters received on RXD, taken one after the other (R167, R168). -/
  | frameReceived (characters : List Character)
  | frameAgeExpired
  | transmitFrameEnd
  | timebaseFractionIncrement
  /-- The chip now on the line ends; `strobe` is the value on RSn at the last strobe that fell in it (R18). -/
  | returnSample (pair : Pair) (strobe : Option (BitVec 12))
  | returnLossDeclared (pair : Pair)
  | periodBoundary (pair : Pair)
  | farActivityBlock (pair : Pair)
  /-- A millisecond of the chip clock ends; the amplitudes measured for F3 and F4 in it (R25). -/
  | farToneMillisecond (pair : Pair) (f3 f4 : Nat)
  | passBegin (pair : Pair)
  | passEnd (pair : Pair)
  | sweepCompletion (pair : Pair)
  | commandFrameEnd
  | driveErrorStop
  | receptionStart
  | replyBit
  | claimBurstEnd (pair : Pair)
  | keepBurstEnd (pair : Pair)
  | claimWon (pair : Pair)
  | claimTimeout (pair : Pair)
  | collision (pair : Pair)
  | resetPinLow
  /-- The midpoint of a command-frame symbol; `readback` is the tone TRBn reports for the pair of the exchange
  in flight (R8, R121). -/
  | toneSymbolMidpoint (readback : Tone)
  deriving DecidableEq, Repr

end Sys2Proof
end

