-- ==== Sys2Proof/Decode.lean ====
section
/-! DEFINITION. Host requests as frames: the TYPE and payload of each request (R183, R186, R187), the reading of
a frame back into a request (R171), the frame's bytes and check (R182), and `decodeTableWord`. -/

namespace Sys2Proof

/-- A two-byte field, high byte first. -/
def be16 (h : Half) : List Byte := [h.extractLsb' 8 8, h.extractLsb' 0 8]

/-- A four-byte field, high byte first. -/
def be32 (w : Word) : List Byte :=
  [w.extractLsb' 24 8, w.extractLsb' 16 8, w.extractLsb' 8 8, w.extractLsb' 0 8]

/-- Two bytes read as a big-endian field. -/
def half (hi lo : Byte) : Half := hi ++ lo

/-- Four bytes read as a big-endian field. -/
def word (a b c d : Byte) : Word := a ++ b ++ c ++ d

/-- The 16 bytes of a load record (R187). -/
def LoadRecord.encode (r : LoadRecord) : List Byte :=
  [r.index] ++ be16 r.address ++ be16 r.nominalLag ++ [r.halfWidth, r.driftLimit] ++ be16 r.baseline
    ++ be16 r.lowRatio ++ be16 r.highRatio ++ be16 r.presence ++ [r.excluded]

/-- The TYPE of a request (R183). -/
def Request.typ : Request → Byte
  | .identify => 0x01
  | .reset => 0x02
  | .setTime .. => 0x03
  | .adjustTime .. => 0x04
  | .readTime => 0x05
  | .readEvents => 0x06
  | .clearEvents .. => 0x07
  | .setNoticeMask .. => 0x08
  | .configurePair .. => 0x10
  | .readPairConfig .. => 0x11
  | .setPairMode .. => 0x12
  | .injectFault .. => 0x13
  | .takeRole .. => 0x14
  | .releaseRole .. => 0x15
  | .readRole .. => 0x16
  | .loadRepeaters .. => 0x20
  | .editRepeater .. => 0x21
  | .readRepeater .. => 0x22
  | .readResults .. => 0x23
  | .readTrace .. => 0x24
  | .learnBaseline .. => 0x25
  | .abortLearn .. => 0x26
  | .readLearning .. => 0x27
  | .listFaults .. => 0x30
  | .readFault .. => 0x31
  | .purgeFault .. => 0x32
  | .isolate .. => 0x33
  | .releaseIsolation .. => 0x34
  | .supervise .. => 0x38
  | .readQueue => 0x39

/-- The payload of a request (R186). -/
def Request.payload : Request → List Byte
  | .identify | .reset | .readTime | .readEvents | .readQueue => []
  | .setTime s none => be32 s
  | .setTime s (some f) => be32 s ++ be16 f
  | .adjustTime o => be16 o
  | .clearEvents sel => sel
  | .setNoticeMask m => m
  | .configurePair p ps => p :: ps.flatMap be32
  | .readPairConfig p | .takeRole p | .readRole p | .abortLearn p | .readLearning p => [p]
  | .setPairMode p m | .releaseRole p m => [p, m]
  | .injectFault p f q => [p, f] ++ be16 q
  | .loadRepeaters p f rs => [p, f, BitVec.ofNat 8 rs.length] ++ rs.flatMap LoadRecord.encode
  | .editRepeater p i c lo hi pr b x => [p, i, c] ++ be16 lo ++ be16 hi ++ be16 pr ++ be16 b ++ [x]
  | .readRepeater p i | .readTrace p i => [p, i]
  | .readResults p r f c => [p, r, f, c]
  | .learnBaseline p t m => [p, t, m]
  | .listFaults s f => s :: be16 f
  | .readFault i | .releaseIsolation i => be16 i
  | .purgeFault o i s => [o] ++ be16 i ++ [s]
  | .isolate i a => be16 i ++ [a]
  | .supervise p i c a => [p, i, c, a]

/-- The good frame that carries a request. -/
def Request.frame (tag : Byte) (r : Request) : Frame := ⟨r.typ, tag, r.payload⟩

/-- Whether a request's variable-length parts have the length of R186; a request that has not is a frame whose
payload does not fit its TYPE. -/
def Request.fits : Request → Bool
  | .clearEvents sel => sel.length == 9
  | .setNoticeMask m => m.length == 12
  | .configurePair _ ps => ps.length == 32
  | .loadRepeaters _ _ rs => decide (rs.length ≤ 16)
  | _ => true

/-- Bytes read as consecutive four-byte fields. -/
def words : List Byte → List Word
  | a :: b :: c :: d :: rest => word a b c d :: words rest
  | _ => []

/-- Bytes read as consecutive load records (R187). -/
def loadRecords : List Byte → List LoadRecord
  | i :: a1 :: a0 :: l1 :: l0 :: w :: d :: b1 :: b0 :: lo1 :: lo0 :: hi1 :: hi0 :: p1 :: p0 :: x :: rest =>
    { index := i, address := half a1 a0, nominalLag := half l1 l0, halfWidth := w, driftLimit := d,
      baseline := half b1 b0, lowRatio := half lo1 lo0, highRatio := half hi1 hi0, presence := half p1 p0,
      excluded := x } :: loadRecords rest
  | _ => []

/-- What a frame taken from the request queue turns out to be (R171, R186). -/
inductive Parsed where
  | unknownType
  | badLength
  | request (r : Request)
  deriving DecidableEq, Repr

/-- A payload that must be empty. -/
def noPayload (r : Request) : List Byte → Parsed
  | [] => .request r
  | _ => .badLength

/-- A payload of one byte. -/
def onePayload (r : Byte → Request) : List Byte → Parsed
  | [a] => .request (r a)
  | _ => .badLength

/-- A payload of two bytes. -/
def twoPayload (r : Byte → Byte → Request) : List Byte → Parsed
  | [a, b] => .request (r a b)
  | _ => .badLength

/-- A payload of three bytes. -/
def threePayload (r : Byte → Byte → Byte → Request) : List Byte → Parsed
  | [a, b, c] => .request (r a b c)
  | _ => .badLength

/-- A payload of four bytes. -/
def fourPayload (r : Byte → Byte → Byte → Byte → Request) : List Byte → Parsed
  | [a, b, c, d] => .request (r a b c d)
  | _ => .badLength

/-- SET TIME fits at 4 or 6 bytes, and 6 carries the fraction (R186). -/
def parseSetTime : List Byte → Parsed
  | [a, b, c, d] => .request (.setTime (word a b c d) none)
  | [a, b, c, d, e, f] => .request (.setTime (word a b c d) (some (half e f)))
  | _ => .badLength

/-- CONFIGURE PAIR fits at 129 bytes (R186). -/
def parseConfigurePair : List Byte → Parsed
  | p :: rest => if rest.length = 128 then .request (.configurePair p (words rest)) else .badLength
  | [] => .badLength

/-- LOAD REPEATERS fits when its record count is 0..16 and its length is 3 + 16 × that count (R186). -/
def parseLoadRepeaters : List Byte → Parsed
  | p :: f :: c :: rest =>
    if c.toNat ≤ 16 ∧ rest.length = 16 * c.toNat then .request (.loadRepeaters p f (loadRecords rest))
    else .badLength
  | _ => .badLength

/-- EDIT REPEATER fits at 12 bytes (R186). -/
def parseEditRepeater : List Byte → Parsed
  | [p, i, c, lo1, lo0, hi1, hi0, pr1, pr0, b1, b0, x] =>
    .request (.editRepeater p i c (half lo1 lo0) (half hi1 hi0) (half pr1 pr0) (half b1 b0) x)
  | _ => .badLength

/-- Reading a frame taken from the request queue: TYPE first, then the payload's length (R171). -/
def Frame.parse (f : Frame) : Parsed :=
  match f.typ.toNat with
  | 0x01 => noPayload .identify f.payload
  | 0x02 => noPayload .reset f.payload
  | 0x03 => parseSetTime f.payload
  | 0x04 => twoPayload (fun a b => .adjustTime (half a b)) f.payload
  | 0x05 => noPayload .readTime f.payload
  | 0x06 => noPayload .readEvents f.payload
  | 0x07 => if f.payload.length = 9 then .request (.clearEvents f.payload) else .badLength
  | 0x08 => if f.payload.length = 12 then .request (.setNoticeMask f.payload) else .badLength
  | 0x10 => parseConfigurePair f.payload
  | 0x11 => onePayload .readPairConfig f.payload
  | 0x12 => twoPayload .setPairMode f.payload
  | 0x13 => fourPayload (fun p r a b => .injectFault p r (half a b)) f.payload
  | 0x14 => onePayload .takeRole f.payload
  | 0x15 => twoPayload .releaseRole f.payload
  | 0x16 => onePayload .readRole f.payload
  | 0x20 => parseLoadRepeaters f.payload
  | 0x21 => parseEditRepeater f.payload
  | 0x22 => twoPayload .readRepeater f.payload
  | 0x23 => fourPayload .readResults f.payload
  | 0x24 => twoPayload .readTrace f.payload
  | 0x25 => threePayload .learnBaseline f.payload
  | 0x26 => onePayload .abortLearn f.payload
  | 0x27 => onePayload .readLearning f.payload
  | 0x30 => threePayload (fun s a b => .listFaults s (half a b)) f.payload
  | 0x31 => twoPayload (fun a b => .readFault (half a b)) f.payload
  | 0x32 => fourPayload (fun o a b s => .purgeFault o (half a b) s) f.payload
  | 0x33 => threePayload (fun a b c => .isolate (half a b) c) f.payload
  | 0x34 => twoPayload (fun a b => .releaseIsolation (half a b)) f.payload
  | 0x38 => fourPayload .supervise f.payload
  | 0x39 => noPayload .readQueue f.payload
  | _ => .unknownType

/-- One bit shifted into the CRC register, most significant first, generator 0x1021 (R182). -/
def crcShift (r : BitVec 16) : BitVec 16 :=
  if r.getLsbD 15 then (r <<< 1) ^^^ 0x1021 else r <<< 1

/-- One byte taken into the CRC register (R182). -/
def crcByte (r : BitVec 16) (b : Byte) : BitVec 16 :=
  (List.range 8).foldl (fun r _ => crcShift r) (r ^^^ (b ++ (0 : Byte)))

/-- The 16-bit remainder over a run of bytes, the register starting at 0xFFFF and not inverted (R182). -/
def crc16 (bs : List Byte) : BitVec 16 := bs.foldl crcByte 0xFFFF

/-- The bytes the CRC covers: LEN, TYPE, TAG and payload (R182). -/
def Frame.body (f : Frame) : List Byte :=
  be16 (BitVec.ofNat 16 (f.payload.length + 2)) ++ [f.typ, f.tag] ++ f.payload

/-- The bytes of a frame on the serial line, start byte to CRC (spec/11, The host frame; R182). -/
def Frame.wire (f : Frame) : List Byte := 0xA5 :: f.body ++ be16 (crc16 f.body)

/-- No row of spec/opcode_table.json gives bits, so no word spells a command. -/
def decodeTableWord (_nbits _w : Nat) : Option Instr := none

end Sys2Proof
end

