-- ==== Sys2Proof/Config.lean ====
section
/-! DEFINITION. What is the same in every part: capacities and identity (R176, R32, R33). The spec leaves no value
of an operation undefined, so there is no free value here. -/

namespace Sys2Proof.Config

/-- Part code and revision (R176). -/
def partCode : Half := 0x4160
def revision : Byte := 0x01

/-- Records in a pair's list (R45). -/
def maxRecords : Nat := 160

/-- Fault records in the fault list (R81). -/
def maxFaults : Nat := 32

/-- Entries in the supervisory queue (R113). -/
def maxEntries : Nat := 8

/-- The largest count of verify outcomes (R135). -/
def maxVerified : Nat := 8

/-- Frames in the request queue (R170). -/
def maxRequests : Nat := 4

/-- Replies in the reply queue (R171). -/
def maxReplies : Nat := 4

/-- Result records on a page of READ RESULTS (R78). -/
def pageRecords : Nat := 16

/-- Fault summaries on a page of LIST FAULTS (R98). -/
def pageFaults : Nat := 8

/-- Correlator bins (R32). -/
def bankBins : Nat := 2048

/-- Outcomes in a history (R62). -/
def maxHistory : Nat := 16

/-- Chips in a far-activity block (R23). -/
def blockChips : Nat := 4096

/-- REFCLK cycles in a fraction, a millisecond and a second (R179, R25). -/
def cyclesPerFraction : Nat := 15625
def cyclesPerMs : Nat := 16000
def cyclesPerSecond : Nat := 16000000

/-- Fraction increments a frame may take (R168). -/
def maxFrameAge : Nat := 1024

end Sys2Proof.Config
end

