-- ==== Sys2Proof/Machine/State.lean ====
section
/-! DEFINITION. The state of the part: every register, list, queue, counter, mode and mark the spec gives it, and
the machine right after reset. Plain data throughout. -/

namespace Sys2Proof.Machine

/-- One value for each fibre pair. -/
structure PerPair (α : Type) where
  p1 : α
  p2 : α
  p3 : α
  p4 : α
  deriving DecidableEq, Repr

/-- The value of one pair. -/
def PerPair.get {α : Type} (t : PerPair α) : Pair → α
  | .one => t.p1
  | .two => t.p2
  | .three => t.p3
  | .four => t.p4

/-- One pair's value replaced. -/
def PerPair.set {α : Type} (t : PerPair α) (p : Pair) (x : α) : PerPair α :=
  match p with
  | .one => { t with p1 := x }
  | .two => { t with p2 := x }
  | .three => { t with p3 := x }
  | .four => { t with p4 := x }

/-- The same value for each pair. -/
def PerPair.all {α : Type} (x : α) : PerPair α := ⟨x, x, x, x⟩

/-! ### Time -/

/-- Line time as a stamp: seconds and fraction (R179). -/
structure LineTime where
  seconds  : Word
  fraction : Nat
  deriving DecidableEq, Repr

/-- The Timebase: line time and the cycle count 0..15,624 (R179). -/
structure Timebase where
  seconds  : Word
  fraction : Nat
  cycles   : Nat
  deriving DecidableEq, Repr

/-! ### Event flags -/

/-- The ten kinds of pair flag, in the bit order of R191. -/
inductive PairFlag where
  | returnLoss | roleChange | faultChange | faultListFull | sweepPublished
  | learnDone | overrange | trackLimit | driveFault | collision
  deriving DecidableEq, Repr

/-- The two part flags (R173). -/
inductive PartFlag where
  | frameError | portOverrun
  deriving DecidableEq, Repr

/-- One setting for each kind of pair flag. -/
structure PairFlags where
  returnLoss     : Bool
  roleChange     : Bool
  faultChange    : Bool
  faultListFull  : Bool
  sweepPublished : Bool
  learnDone      : Bool
  overrange      : Bool
  trackLimit     : Bool
  driveFault     : Bool
  collision      : Bool
  deriving DecidableEq, Repr

/-- The 42 event flags (R173). -/
structure EventFlags where
  frameError  : Bool
  portOverrun : Bool
  pairs       : PerPair PairFlags
  deriving DecidableEq, Repr

/-- The notice mask: one setting for each of the 12 kinds, yes for ENABLED (R174). -/
structure NoticeMask where
  frameError  : Bool
  portOverrun : Bool
  kinds       : PairFlags
  deriving DecidableEq, Repr

/-! ### Message Port -/

/-- A held byte of the frame being assembled and the fraction increments since it arrived (R168). -/
structure HeldByte where
  byte : Byte
  age  : Nat
  deriving DecidableEq, Repr

/-- What the transmitter is sending: a reply, the event notice, or a supervisory-result notice (R172). -/
inductive SentKind where
  | reply | eventNotice | resultNotice
  deriving DecidableEq, Repr

/-- The transmitter; `cycles` counts REFCLK cycles since the frame began (R172). -/
inductive Transmitter where
  | idle
  | sending (kind : SentKind) (frame : Frame) (cycles : Nat)
  deriving DecidableEq, Repr

/-- How far a RESET request has gone (R177): none, its reply in the reply queue, or its reply sent and the reset
to take effect. -/
inductive ResetPhase where
  | inactive | replyQueued | due
  deriving DecidableEq, Repr

/-- The Message Port (R168 to R174, R177). The receiver is HUNTING with no held byte, LENGTH with fewer than
three and BODY otherwise. -/
structure PortState where
  rx            : List HeldByte
  requests      : List Frame
  replies       : List Frame
  tx            : Transmitter
  flags         : EventFlags
  mask          : NoticeMask
  noticePending : Bool
  resetPhase    : ResetPhase
  deriving DecidableEq, Repr

/-! ### Pair configuration -/

inductive YieldPolicy where
  | yield | keep
  deriving DecidableEq, Repr

inductive YieldMode where
  | graceful | prompt
  deriving DecidableEq, Repr

inductive CheckMode where
  | classic | enhanced
  deriving DecidableEq, Repr

/-- A fault-class policy, and the action of an isolation sequence (R136, R184). -/
inductive Action where
  | nothing | query | pumpRecovery | hold | release
  deriving DecidableEq, Repr

/-- The classes of a fault (R85). -/
inductive FaultClass where
  | break | loopbackLoss | dip | step | surge | unstable
  deriving DecidableEq, Repr

/-- The 32 parameters of a pair, in number order (R9). -/
structure PairConfig where
  order          : Nat
  chipCode       : Nat
  periods        : Nat
  level          : Nat
  lineDelay      : Nat
  presence       : Nat
  track          : Nat
  confirmM       : Nat
  confirmN       : Nat
  clearCount     : Nat
  verifyCount    : Nat
  yieldPolicy    : YieldPolicy
  yieldMode      : YieldMode
  checkMode      : CheckMode
  symbolTime     : Nat
  turnaround     : Nat
  replyBit       : Nat
  retries        : Nat
  lossRun        : Nat
  returnFloor    : Nat
  activityLevel  : Nat
  burstTime      : Nat
  claimTimeout   : Nat
  detectTime     : Nat
  collisionTime  : Nat
  autoIsolation  : Bool
  policyBreak    : Action
  policyLoopback : Action
  policyDip      : Action
  policyStep     : Action
  policySurge    : Action
  policyUnstable : Action
  deriving DecidableEq, Repr

/-- The defaults of R9. -/
def PairConfig.default : PairConfig where
  order := 16
  chipCode := 1
  periods := 64
  level := 128
  lineDelay := 60
  presence := 8
  track := 2
  confirmM := 3
  confirmN := 4
  clearCount := 4
  verifyCount := 2
  yieldPolicy := .yield
  yieldMode := .graceful
  checkMode := .classic
  symbolTime := 5
  turnaround := 50
  replyBit := 65536
  retries := 1
  lossRun := 256
  returnFloor := 4
  activityLevel := 64
  burstTime := 200
  claimTimeout := 10
  detectTime := 20
  collisionTime := 500
  autoIsolation := false
  policyBreak := .nothing
  policyLoopback := .nothing
  policyDip := .nothing
  policyStep := .nothing
  policySurge := .nothing
  policyUnstable := .nothing

/-! ### Line Role Controller -/

/-- The quiet timer of a CLAIMING pair (R152). -/
inductive QuietTimer where
  | burst
  | counting (count : Nat)
  | held
  deriving DecidableEq, Repr

/-- The collision timer of a HOLDER pair (R152). -/
inductive CollisionTimer where
  | idle
  | counting (count : Nat)
  deriving DecidableEq, Repr

/-- The role state of a pair with what exists only in it: the claim and quiet timers, the collision timer, the
yield mode and the two items of the quiet guard (R152). `synthetic` is the spec's LOCAL. -/
inductive Role where
  | parked
  | listen
  | claiming (claimTimer : Nat) (quiet : QuietTimer)
  | holder (collision : CollisionTimer)
  | yielding (mode : YieldMode) (passOutstanding exchangeOutstanding : Bool)
  | synthetic
  deriving DecidableEq, Repr

/-- The six role states by name. -/
inductive RoleName where
  | parked | listen | claiming | holder | yielding | synthetic
  deriving DecidableEq, Repr

/-- The name of a role state. -/
def Role.name : Role → RoleName
  | .parked => .parked
  | .listen => .listen
  | .claiming .. => .claiming
  | .holder _ => .holder
  | .yielding .. => .yielding
  | .synthetic => .synthetic

/-- The recorded causes of a role change (R152). -/
inductive RoleCause where
  | host | claimWon | roleRefused | roleTimeout | roleContended | farClaim | collision | roleYielded
  deriving DecidableEq, Repr

/-- The last role event (R152). -/
structure RoleEvent where
  left    : RoleName
  entered : RoleName
  cause   : RoleCause
  time    : LineTime
  deriving DecidableEq, Repr

/-! ### Probe Generator and inputs -/

/-- The chip clock and counters (R1, R2). `chipCycles` and `msCycles` are the cycles into the chip and into the
millisecond of the chip clock; `periodDue` says that the last chip of the period has ended and its boundary has
not been taken yet. -/
structure ChipClock where
  chip       : Nat
  period     : Word
  chipCycles : Nat
  msCycles   : Nat
  periodDue  : Bool
  deriving DecidableEq, Repr

/-- What drives a pair's tone field (R6, R7): nothing, a claim burst or a keep burst with the cycles it has
lasted, a command frame, or the rest of a symbol that a return loss lets finish (R130). -/
inductive ToneUse where
  | free
  | claimBurst (cycles : Nat)
  | keepBurst (cycles : Nat)
  | commandFrame
  | lastSymbol (tone : Tone) (left : Nat)
  deriving DecidableEq, Repr

/-- Who can wait for the tone field (R7). -/
inductive ToneAsker where
  | keepBurst | commandFrame
  deriving DecidableEq, Repr

/-- The tone field of a pair: its driver, and who waits for it in order of asking (R7). -/
structure ToneField where
  use     : ToneUse
  waiting : List ToneAsker
  deriving DecidableEq, Repr

/-- Inputs as last seen: the tone readback pin (R8) and the two measured far-tone amplitudes (R25). -/
structure LineInputs where
  readback : Tone
  f3       : Nat
  f4       : Nat
  deriving DecidableEq, Repr

/-! ### Return Interface -/

/-- A far-tone detector: HELD or ARMED, and its run of milliseconds (R26). -/
structure ToneDetector where
  held : Bool
  run  : Nat
  deriving DecidableEq, Repr

/-- The line-side detectors of a pair (R20, R21, R23, R24, R26). `blockPos` is 4096 while a full block waits to
be judged. -/
structure Detectors where
  lossDeclared : Bool
  lossRun      : Nat
  strong       : Nat
  farPresent   : Bool
  disagree     : Nat
  blockSum     : Nat
  blockPos     : Nat
  claimTone    : ToneDetector
  keepTone     : ToneDetector
  deriving DecidableEq, Repr

/-- An injected fault: first repeater and factor (R31). -/
structure Injection where
  first  : Nat
  factor : Nat
  deriving DecidableEq, Repr

/-! ### Repeater Table -/

inductive LockState where
  | search | candidate | locked | fading | lost
  deriving DecidableEq, Repr

inductive TrackSign where
  | unset | plus | minus
  deriving DecidableEq, Repr

/-- Validity of a window measurement; `absent` is the spec's NONE (R39). -/
inductive Validity where
  | absent | valid | overrange | disturbed
  deriving DecidableEq, Repr

/-- The outcome of a record at a completion (R61). -/
inductive EchoOutcome where
  | unknown | normal | low | high | absent
  deriving DecidableEq, Repr

/-- A record's last measurement (R53). -/
structure Measured where
  ap       : Int
  delta    : Int
  ratio    : Nat
  validity : Validity
  deriving DecidableEq, Repr

/-- Edits waiting for the next sweep completion; a pending removal of the presence override is `some none`
(R47, R48). -/
structure PendingEdits where
  low      : Option Nat
  high     : Option Nat
  presence : Option (Option Nat)
  baseline : Option Nat
  deriving DecidableEq, Repr

/-- A repeater record: the loaded fields 1..10 and the kept fields (spec/03, What a record is). -/
structure RepeaterRecord where
  index            : Nat
  address          : Nat
  nominalLag       : Nat
  halfWidth        : Nat
  driftLimit       : Nat
  baseline         : Nat
  lowRatio         : Nat
  highRatio        : Nat
  presence         : Option Nat
  excluded         : Bool
  centre           : Nat
  lock             : LockState
  missCount        : Nat
  remembered       : Option Int
  trackSign        : TrackSign
  driftReached     : Bool
  last             : Option Measured
  lastValidOffset  : Option Int
  lastLockedAmp    : Option Int
  history          : List EchoOutcome
  edits            : PendingEdits
  excludedByMute   : Bool
  learnSum         : Nat
  learnCount       : Nat
  learnIncomplete  : Bool
  deriving DecidableEq, Repr

/-! ### Correlator bank and sweeps -/

/-- A window of a pass plan (R68). -/
structure Window where
  index     : Nat
  centre    : Nat
  halfWidth : Nat
  deriving DecidableEq, Repr

/-- A bin in use: its lag, its sum, its saturated mark and its clipped mark (R32). -/
structure Bin where
  lag       : Nat
  sum       : Int
  saturated : Bool
  clipped   : Bool
  deriving DecidableEq, Repr

/-- A window loaded in the bank: its disturbed mark and its bins, lowest lag first (R32). -/
structure BankWindow where
  window    : Window
  disturbed : Bool
  bins      : List Bin
  deriving DecidableEq, Repr

/-- The plan loaded in the bank (R32). -/
structure BankLoad where
  pair    : Pair
  periods : Nat
  windows : List BankWindow
  deriving DecidableEq, Repr

/-- The correlator bank; RUNNING counts the whole periods it has run (R32, R33). -/
inductive Bank where
  | idle
  | armed (load : BankLoad)
  | running (load : BankLoad) (done : Nat)
  deriving DecidableEq, Repr

/-- A normalized bin: its amplitude and its marks (R37, R38). -/
structure BinResult where
  amplitude : Int
  saturated : Bool
  clipped   : Bool
  deriving DecidableEq, Repr

/-- A window measurement (R38). -/
structure WindowMeasurement where
  index    : Nat
  centre   : Nat
  ap       : Int
  delta    : Int
  bins     : List BinResult
  validity : Validity
  deriving DecidableEq, Repr

/-- Where a current sweep stands: a pass waits for the bank, the bank holds it, or the last pass has delivered and
the completion, with the time stamp of R75, is to be taken (R65, R70). -/
inductive SweepStage where
  | ready
  | inBank
  | completing (stamp : LineTime)
  deriving DecidableEq, Repr

/-- A pair's current sweep: its plan, the pass number p, the held measurements and its stage (R65, R68).
`awaitBoundary` says that it was planned at a completion and no period boundary has come since (R70). -/
structure Sweep where
  passes        : List (List Window)
  passNo        : Nat
  held          : List WindowMeasurement
  stage         : SweepStage
  awaitBoundary : Bool
  deriving DecidableEq, Repr

/-- One record's published result (R76). -/
structure SweepResult where
  index        : Nat
  inPlan       : Bool
  centreUsed   : Nat
  centreAfter  : Nat
  halfWidth    : Nat
  measured     : Option Measured
  outcome      : EchoOutcome
  lock         : LockState
  driftReached : Bool
  bins         : List BinResult
  deriving DecidableEq, Repr

/-- A published sweep; the list length is the number of its results (R76). -/
structure PublishedSweep where
  number    : BitVec 48
  time      : LineTime
  passCount : Nat
  results   : List SweepResult
  deriving DecidableEq, Repr

/-! ### Learning Unit -/

inductive LearnMode where
  | conditional | unconditional
  deriving DecidableEq, Repr

/-- The learning state of a pair (R103). -/
inductive LearnState where
  | idle
  | active (mode : LearnMode) (target counted suspended : Nat)
  deriving DecidableEq, Repr

inductive LearnCause where
  | host | role | suspended
  deriving DecidableEq, Repr

/-- The last result of a pair's Learning Unit (R103). -/
inductive LearnResult where
  | nothing
  | finished (number : BitVec 48) (time : LineTime) (replaced incomplete : Nat)
  | abandoned (cause : LearnCause) (number : BitVec 48) (time : LineTime)
  deriving DecidableEq, Repr

/-! ### Supervisory Unit -/

/-- The repeater commands (R116). -/
inductive Command where
  | query | pumpSelect | gainHold | loopbackMute | release
  deriving DecidableEq, Repr

/-- The results of an exchange (R113). -/
inductive ExchangeResult where
  | done | refused | sent | noReply | checkError | badReply | driveError | returnLoss | roleLost
  deriving DecidableEq, Repr

/-- What an entry of a single repeater captures from its record (R118). -/
structure CapturedTarget where
  centre    : Nat
  replyLag  : Nat
  threshold : Nat
  deriving DecidableEq, Repr

/-- The captured values of an entry in flight; a broadcast captures no target (R118). -/
structure Captured where
  address    : Nat
  target     : Option CapturedTarget
  chipCode   : Nat
  symbolTime : Nat
  turnaround : Nat
  replyBit   : Nat
  checkMode  : CheckMode
  deriving DecidableEq, Repr

/-- The line times of a sent frame's end, of T0 and of the reply deadline (R122, R123). -/
structure ReplyTimes where
  frameEnd : LineTime
  start    : LineTime
  deadline : LineTime
  deriving DecidableEq, Repr

/-- The phase of an entry in flight (R113). TRANSMITTING holds the symbol number 1..66, the cycles into it,
whether its midpoint has been compared, and the symbol at whose end a mismatch stops it (R121); AWAITING REPLY
the line time of E and the cycles left to T0, and once T0 has come its stamp, until the next chip boundary (R122,
R123); RECEIVING the bits read, first one first, and the sum and chips of the bit in progress (R124). -/
inductive Phase where
  | toneWait
  | transmitting (symbol cycles : Nat) (compared : Bool) (stopAt : Option Nat)
  | awaitingReply (frameEnd : LineTime) (left : Nat)
  | replyDue (times : ReplyTimes)
  | receiving (times : ReplyTimes) (bits : List Bool) (sum : Int) (chips : Nat)
  deriving DecidableEq, Repr

/-- The origin of an entry (R113). -/
inductive Origin where
  | host (tag : Byte)
  | fault (id : Nat)
  deriving DecidableEq, Repr

/-- The state of an entry: WAITING, IN FLIGHT with its captured values and phase, or DONE with its result and
reply data; `noticeBegun` says that its supervisory-result notice has begun (R113, R172). -/
inductive EntryState where
  | waiting
  | inFlight (captured : Captured) (phase : Phase)
  | done (result : ExchangeResult) (reply : List Byte) (noticeBegun : Bool)
  deriving DecidableEq, Repr

/-- An entry of the supervisory queue (R113). -/
structure QueueEntry where
  state    : EntryState
  origin   : Origin
  pair     : Pair
  index    : Nat
  command  : Command
  argument : Nat
  retries  : Nat
  attempts : Nat
  deriving DecidableEq, Repr

/-! ### Fault list and isolation -/

inductive FaultState where
  | suspect | confirmed | acting | isolated | unresolved | cleared
  deriving DecidableEq, Repr

inductive ActionOrigin where
  | auto | host
  deriving DecidableEq, Repr

/-- The step that an enqueued command stands for (R135). -/
inductive CommandStep where
  | querying | commanding
  deriving DecidableEq, Repr

/-- The step of a sequence, with its waiting command or its pass-over mark (R135). -/
inductive Step where
  | waitingForQueue (command : Command) (argument : Nat) (standsFor : CommandStep)
  | querying
  | commanding
  | verifying (passOver : Bool)
  | done
  deriving DecidableEq, Repr

/-- The result of a sequence (R135). -/
inductive ActionResult where
  | pending | queried | isolated | released | noPumpChoice | notRecovered | relapsed
  | exchange (result : ExchangeResult)
  deriving DecidableEq, Repr

/-- The action part of a fault record (R135). -/
structure ActionPart where
  action     : Action
  origin     : ActionOrigin
  step       : Step
  statusWord : Option Half
  verified   : Nat
  result     : ActionResult
  deriving DecidableEq, Repr

/-- A fault record (spec/05, The fault record). -/
structure FaultRecord where
  id             : Nat
  pair           : Pair
  first          : Nat
  last           : Nat
  cls            : FaultClass
  state          : FaultState
  openedTime     : LineTime
  openedSweep    : BitVec 48
  confirmed      : Option LineTime
  cleared        : Option LineTime
  worst          : Option Nat
  absence        : Nat
  masked         : Bool
  neverConfirmed : Bool
  action         : Option ActionPart
  deriving DecidableEq, Repr

/-! ### The part -/

/-- Everything the part holds for one fibre pair. `source` is the sample that the synthetic echo source has formed for
the chip in progress; while it is absent that chip delivers its line sample (R19, R28, R29). -/
structure PairState where
  config      : PairConfig
  role        : Role
  lastRole    : Option RoleEvent
  clock       : ChipClock
  probeOn     : Bool
  tone        : ToneField
  inputs      : LineInputs
  det         : Detectors
  injected    : Option Injection
  source      : Option Int
  records     : List RepeaterRecord
  sweep       : Option Sweep
  sweepNumber : BitVec 48
  published   : Option PublishedSweep
  readout     : Option PublishedSweep
  cursor      : Nat
  learn       : LearnState
  hold        : Bool
  lastLearn   : LearnResult
  deriving DecidableEq, Repr

/-- The state of the part, and the queue of commands that wait for it. -/
structure State where
  pending     : List Instr
  inReset     : Bool
  rate1       : Bool
  rate0       : Bool
  endSetting  : EndSetting
  time        : Timebase
  port        : PortState
  pairs       : PerPair PairState
  bank        : Bank
  pointer     : Pair
  faults      : List FaultRecord
  nextFaultId : Nat
  queue       : List QueueEntry
  deriving DecidableEq, Repr

/-! ### Reset -/

def PairFlags.all (b : Bool) : PairFlags := ⟨b, b, b, b, b, b, b, b, b, b⟩

/-- The Message Port after a reset (R177, R178). -/
def PortState.reset : PortState where
  rx := []
  requests := []
  replies := []
  tx := .idle
  flags := ⟨false, false, .all (.all false)⟩
  mask := ⟨true, true, .all true⟩
  noticePending := false
  resetPhase := .inactive

/-- A chip clock at its origin, or stopped (R1, R2). -/
def ChipClock.origin : ChipClock := ⟨0, 0, 0, 0, false⟩

/-- The tone field with no driver (R6). -/
def ToneField.silent : ToneField := ⟨.free, []⟩

/-- The detectors after a reset or on entering PARKED (R27). -/
def Detectors.reset : Detectors := ⟨false, 0, 0, false, 0, 0, 0, ⟨false, 0⟩, ⟨false, 0⟩⟩

/-- A pair after a reset (R1, R2, R5, R9, R27, R31, R64, R80, R103, R166). -/
def PairState.reset : PairState where
  config := .default
  role := .parked
  lastRole := none
  clock := .origin
  probeOn := false
  tone := .silent
  inputs := ⟨.off, 0, 0⟩
  det := .reset
  injected := none
  source := none
  records := []
  sweep := none
  sweepNumber := 0
  published := none
  readout := none
  cursor := 1
  learn := .idle
  hold := false
  lastLearn := .nothing

/-- The machine right after power-on (R178). RATE1, RATE0 and END_SEL are sampled from pins: this state has them
at 0, 0 and END A. DESIGN CHOICE, unsafe: log entry 9. -/
def State.reset : State where
  pending := []
  inReset := false
  rate1 := false
  rate0 := false
  endSetting := .endA
  time := ⟨0, 0, 0⟩
  port := .reset
  pairs := .all .reset
  bank := .idle
  pointer := .one
  faults := []
  nextFaultId := 1
  queue := []

/-! ### How a step can stop -/

/-- The part has no state in which it stops and no exception: no step faults, so no reason stands here. Safe. -/
inductive Fault where
  deriving DecidableEq, Repr

/-- Why a command has no meaning here. -/
inductive Refusal where
  /-- Raised by an arm of `exec` for a command that has not been given its meaning. No arm does. Safe. -/
  | notModelled (mnemonic : String)
  deriving DecidableEq, Repr

end Sys2Proof.Machine
end

