-- ==== Sys2Proof/Machine/Flags.lean ====
section
/-! DEFINITION. Event flags, the notice mask and ATTN (R173, R174, R191). -/

namespace Sys2Proof.Machine

/-- The setting of one kind. -/
def PairFlags.get (f : PairFlags) : PairFlag → Bool
  | .returnLoss => f.returnLoss
  | .roleChange => f.roleChange
  | .faultChange => f.faultChange
  | .faultListFull => f.faultListFull
  | .sweepPublished => f.sweepPublished
  | .learnDone => f.learnDone
  | .overrange => f.overrange
  | .trackLimit => f.trackLimit
  | .driveFault => f.driveFault
  | .collision => f.collision

/-- One kind's setting replaced. -/
def PairFlags.set (f : PairFlags) (k : PairFlag) (b : Bool) : PairFlags :=
  match k with
  | .returnLoss => { f with returnLoss := b }
  | .roleChange => { f with roleChange := b }
  | .faultChange => { f with faultChange := b }
  | .faultListFull => { f with faultListFull := b }
  | .sweepPublished => { f with sweepPublished := b }
  | .learnDone => { f with learnDone := b }
  | .overrange => { f with overrange := b }
  | .trackLimit => { f with trackLimit := b }
  | .driveFault => { f with driveFault := b }
  | .collision => { f with collision := b }

/-- The ten settings in the bit order of R191, bit 0 first. -/
def PairFlags.toList (f : PairFlags) : List Bool :=
  [f.returnLoss, f.roleChange, f.faultChange, f.faultListFull, f.sweepPublished, f.learnDone, f.overrange,
    f.trackLimit, f.driveFault, f.collision]

/-- Ten settings read in that order. -/
def PairFlags.ofList : List Bool → PairFlags
  | [a, b, c, d, e, f, g, h, i, j] => ⟨a, b, c, d, e, f, g, h, i, j⟩
  | _ => .all false

/-- The flags of `f` that `sel` does not name (R175). -/
def PairFlags.without (f sel : PairFlags) : PairFlags :=
  ⟨f.returnLoss && !sel.returnLoss, f.roleChange && !sel.roleChange, f.faultChange && !sel.faultChange,
    f.faultListFull && !sel.faultListFull, f.sweepPublished && !sel.sweepPublished, f.learnDone && !sel.learnDone,
    f.overrange && !sel.overrange, f.trackLimit && !sel.trackLimit, f.driveFault && !sel.driveFault,
    f.collision && !sel.collision⟩

/-- Whether some kind is set in both. -/
def PairFlags.meet (f g : PairFlags) : Bool :=
  (f.toList.zip g.toList).any fun x => x.1 && x.2

/-- CLEAR EVENTS: every flag named becomes CLEAR (R175). -/
def EventFlags.without (f sel : EventFlags) : EventFlags where
  frameError := f.frameError && !sel.frameError
  portOverrun := f.portOverrun && !sel.portOverrun
  pairs := ⟨f.pairs.p1.without sel.pairs.p1, f.pairs.p2.without sel.pairs.p2, f.pairs.p3.without sel.pairs.p3,
    f.pairs.p4.without sel.pairs.p4⟩

/-- Whether at least one flag is SET whose kind is ENABLED in the mask (R174). -/
def EventFlags.anyEnabled (f : EventFlags) (m : NoticeMask) : Bool :=
  (f.frameError && m.frameError) || (f.portOverrun && m.portOverrun) || f.pairs.p1.meet m.kinds
    || f.pairs.p2.meet m.kinds || f.pairs.p3.meet m.kinds || f.pairs.p4.meet m.kinds

/-- The kinds that `new` enables and `old` does not. -/
def NoticeMask.newlyEnabled (old new : NoticeMask) : NoticeMask where
  frameError := new.frameError && !old.frameError
  portOverrun := new.portOverrun && !old.portOverrun
  kinds := new.kinds.without old.kinds

/-- ATTN is asserted while at least one enabled flag is SET; it does not depend on the pending indicator
(R174). -/
def State.attn (s : State) : Bool := s.port.flags.anyEnabled s.port.mask

/-- A pair's flag is set. A flag that goes from CLEAR to SET makes an event notice pending if its kind is
ENABLED; a flag already SET stays SET (R173, R174). -/
def State.setPairFlag (s : State) (p : Pair) (k : PairFlag) : State :=
  let pf := s.port.flags.pairs.get p
  { s with port := { s.port with
      flags := { s.port.flags with pairs := s.port.flags.pairs.set p (pf.set k true) }
      noticePending := s.port.noticePending || (!pf.get k && s.port.mask.kinds.get k) } }

/-- A part flag is set, with the same rule (R173, R174). -/
def State.setPartFlag (s : State) (k : PartFlag) : State :=
  match k with
  | .frameError =>
    { s with port := { s.port with
        flags := { s.port.flags with frameError := true }
        noticePending := s.port.noticePending || (!s.port.flags.frameError && s.port.mask.frameError) } }
  | .portOverrun =>
    { s with port := { s.port with
        flags := { s.port.flags with portOverrun := true }
        noticePending := s.port.noticePending || (!s.port.flags.portOverrun && s.port.mask.portOverrun) } }

/-- A pair's flag is set when `b` says so. -/
def State.setPairFlagIf (s : State) (b : Bool) (p : Pair) (k : PairFlag) : State :=
  if b then s.setPairFlag p k else s

end Sys2Proof.Machine
end

