-- ==== Sys2Proof/Machine/Operands.lean ====
section
/-! DEFINITION. The codes of enumerated fields (R183, R184) and how a field of a request is read (R185). -/

namespace Sys2Proof.Machine

/-- The status codes of R183. -/
inductive Status where
  | ok | accepted | unknownType | badLength | badValue | wrongState | notFound | queueFull
  deriving DecidableEq, Repr

def Status.code : Status → Byte
  | .ok => 0x00
  | .accepted => 0x01
  | .unknownType => 0x02
  | .badLength => 0x03
  | .badValue => 0x04
  | .wrongState => 0x05
  | .notFound => 0x06
  | .queueFull => 0x07

/-- A pair number 1..4; any other value names no pair (R10, R14 and every request with a pair number). -/
def pairOf (b : Byte) : Option Pair :=
  match b.toNat with
  | 1 => some .one
  | 2 => some .two
  | 3 => some .three
  | 4 => some .four
  | _ => none

def pairNumber : Pair → Nat
  | .one => 1
  | .two => 2
  | .three => 3
  | .four => 4

/-- The cyclic order 1, 2, 3, 4 of the bank arbiter (R69). -/
def nextPair : Pair → Pair
  | .one => .two
  | .two => .three
  | .three => .four
  | .four => .one

def allPairs : List Pair := [.one, .two, .three, .four]

/-- A yes/no or mask code (R184). -/
def boolCode (b : Bool) : Byte := if b then 1 else 0

def boolOf (b : Byte) : Option Bool :=
  match b.toNat with
  | 0 => some false
  | 1 => some true
  | _ => none

def RoleName.code : RoleName → Byte
  | .parked => 0
  | .listen => 1
  | .claiming => 2
  | .holder => 3
  | .yielding => 4
  | .synthetic => 5

/-- The mode is read from the role state (spec/01, Pair modes): DISABLED, ENABLED, SYNTHETIC. -/
def RoleName.modeCode : RoleName → Byte
  | .parked => 0
  | .listen | .claiming | .holder | .yielding => 1
  | .synthetic => 2

def YieldPolicy.code : YieldPolicy → Nat
  | .yield => 0
  | .keep => 1

def YieldMode.code : YieldMode → Nat
  | .graceful => 0
  | .prompt => 1

def yieldModeOf (b : Byte) : Option YieldMode :=
  match b.toNat with
  | 0 => some .graceful
  | 1 => some .prompt
  | _ => none

def CheckMode.code : CheckMode → Nat
  | .classic => 0
  | .enhanced => 1

def endCode : EndSetting → Byte
  | .endA => 0
  | .endB => 1

def LockState.code : LockState → Byte
  | .search => 0
  | .candidate => 1
  | .locked => 2
  | .fading => 3
  | .lost => 4

def Validity.code : Validity → Byte
  | .absent => 0
  | .valid => 1
  | .overrange => 2
  | .disturbed => 3

def EchoOutcome.code : EchoOutcome → Byte
  | .unknown => 0
  | .normal => 1
  | .low => 2
  | .high => 3
  | .absent => 4

def TrackSign.code : TrackSign → Byte
  | .unset => 0
  | .plus => 1
  | .minus => 2

def FaultClass.code : FaultClass → Byte
  | .break => 1
  | .loopbackLoss => 2
  | .dip => 3
  | .step => 4
  | .surge => 5
  | .unstable => 6

def FaultState.code : FaultState → Byte
  | .suspect => 1
  | .confirmed => 2
  | .acting => 3
  | .isolated => 4
  | .unresolved => 5
  | .cleared => 6

def Action.code : Action → Nat
  | .nothing => 0
  | .query => 1
  | .pumpRecovery => 2
  | .hold => 3
  | .release => 4

/-- A policy code: NONE, QUERY, PUMP RECOVERY or HOLD (R11, R184). -/
def policyOf : Nat → Option Action
  | 0 => some .nothing
  | 1 => some .query
  | 2 => some .pumpRecovery
  | 3 => some .hold
  | _ => none

def ActionOrigin.code : ActionOrigin → Byte
  | .auto => 0
  | .host => 1

def CommandStep.code : CommandStep → Byte
  | .querying => 2
  | .commanding => 3

def Step.code : Step → Byte
  | .waitingForQueue .. => 1
  | .querying => 2
  | .commanding => 3
  | .verifying _ => 4
  | .done => 5

def ExchangeResult.code : ExchangeResult → Byte
  | .done => 1
  | .refused => 2
  | .sent => 3
  | .noReply => 4
  | .checkError => 5
  | .badReply => 6
  | .driveError => 7
  | .returnLoss => 8
  | .roleLost => 9

/-- An exchange result is written as its code + 0x10 in an action result (R184). -/
def ActionResult.code : ActionResult → Byte
  | .pending => 0
  | .queried => 1
  | .isolated => 2
  | .released => 3
  | .noPumpChoice => 4
  | .notRecovered => 5
  | .relapsed => 6
  | .exchange r => r.code + 0x10

def EntryState.code : EntryState → Byte
  | .waiting => 1
  | .inFlight .. => 2
  | .done .. => 3

def Origin.code : Origin → Byte
  | .host _ => 0
  | .fault _ => 1

def Phase.code : Phase → Byte
  | .toneWait => 1
  | .transmitting .. => 2
  | .awaitingReply .. | .replyDue _ => 3
  | .receiving .. => 4

/-- Command codes (R116). -/
def Command.code : Command → Byte
  | .query => 1
  | .pumpSelect => 2
  | .gainHold => 3
  | .loopbackMute => 4
  | .release => 5

/-- A command code with an argument that is valid for it (R116). -/
def commandOf (code argument : Byte) : Option (Command × Nat) :=
  match code.toNat, argument.toNat with
  | 1, 0 => some (.query, 0)
  | 2, 0 => some (.pumpSelect, 0)
  | 2, 1 => some (.pumpSelect, 1)
  | 2, 2 => some (.pumpSelect, 2)
  | 3, 0 => some (.gainHold, 0)
  | 3, 1 => some (.gainHold, 1)
  | 4, 0 => some (.loopbackMute, 0)
  | 4, 1 => some (.loopbackMute, 1)
  | 5, 0 => some (.release, 0)
  | _, _ => none

def LearnMode.code : LearnMode → Byte
  | .conditional => 0
  | .unconditional => 1

def learnModeOf (b : Byte) : Option LearnMode :=
  match b.toNat with
  | 0 => some .conditional
  | 1 => some .unconditional
  | _ => none

def LearnCause.code : LearnCause → Byte
  | .host => 1
  | .role => 2
  | .suspended => 3

def RoleCause.code : RoleCause → Byte
  | .host => 1
  | .claimWon => 2
  | .roleRefused => 3
  | .roleTimeout => 4
  | .roleContended => 5
  | .farClaim => 6
  | .collision => 7
  | .roleYielded => 8

def QuietTimer.code : QuietTimer → Byte
  | .burst => 0
  | .counting _ => 1
  | .held => 2

def CollisionTimer.code : CollisionTimer → Byte
  | .idle => 0
  | .counting _ => 1

/-- A parameter by its place in a list of 32 numbers; parameter 1 is first. -/
def param (ps : List Nat) (n : Nat) : Nat := ps.getD (n - 1) 0

/-- The policy that a validated code names. -/
def policyAt (ps : List Nat) (n : Nat) : Action := (policyOf (param ps n)).getD .nothing

/-- The configuration that 32 validated numbers give (R9, R186). -/
def PairConfig.ofParams (ps : List Nat) : PairConfig where
  order := param ps 1
  chipCode := param ps 2
  periods := param ps 3
  level := param ps 4
  lineDelay := param ps 5
  presence := param ps 6
  track := param ps 7
  confirmM := param ps 8
  confirmN := param ps 9
  clearCount := param ps 10
  verifyCount := param ps 11
  yieldPolicy := if param ps 12 = 1 then .keep else .yield
  yieldMode := if param ps 13 = 1 then .prompt else .graceful
  checkMode := if param ps 14 = 1 then .enhanced else .classic
  symbolTime := param ps 15
  turnaround := param ps 16
  replyBit := param ps 17
  retries := param ps 18
  lossRun := param ps 19
  returnFloor := param ps 20
  activityLevel := param ps 21
  burstTime := param ps 22
  claimTimeout := param ps 23
  detectTime := param ps 24
  collisionTime := param ps 25
  autoIsolation := param ps 26 == 1
  policyBreak := policyAt ps 27
  policyLoopback := policyAt ps 28
  policyDip := policyAt ps 29
  policyStep := policyAt ps 30
  policySurge := policyAt ps 31
  policyUnstable := policyAt ps 32

/-- The 32 numbers of a configuration, in number order (R13, R186). -/
def PairConfig.toParams (c : PairConfig) : List Nat :=
  [c.order, c.chipCode, c.periods, c.level, c.lineDelay, c.presence, c.track, c.confirmM, c.confirmN, c.clearCount,
    c.verifyCount, c.yieldPolicy.code, c.yieldMode.code, c.checkMode.code, c.symbolTime, c.turnaround, c.replyBit,
    c.retries, c.lossRun, c.returnFloor, c.activityLevel, c.burstTime, c.claimTimeout, c.detectTime,
    c.collisionTime, (if c.autoIsolation then 1 else 0), c.policyBreak.code, c.policyLoopback.code,
    c.policyDip.code, c.policyStep.code, c.policySurge.code, c.policyUnstable.code]

/-- The policy of a fault class (R136). -/
def PairConfig.policy (c : PairConfig) : FaultClass → Action
  | .break => c.policyBreak
  | .loopbackLoss => c.policyLoopback
  | .dip => c.policyDip
  | .step => c.policyStep
  | .surge => c.policySurge
  | .unstable => c.policyUnstable

/-- The policies and ISOLATE actions a class allows (R11, R136). -/
def actionAllowed : FaultClass → Action → Bool
  | _, .nothing => true
  | .break, _ => false
  | .loopbackLoss, .query => true
  | .dip, .query | .dip, .pumpRecovery => true
  | .step, .query | .step, .pumpRecovery => true
  | .surge, .query | .surge, .hold => true
  | .unstable, .query | .unstable, .hold => true
  | _, _ => false

/-- Whether a policy code is allowed for a class (R11). -/
def policyFits (c : FaultClass) (v : Nat) : Bool :=
  match policyOf v with
  | some a => actionAllowed c a
  | none => false

/-- Whether a value lies in lo..hi. -/
def inRange (v lo hi : Nat) : Bool := decide (lo ≤ v) && decide (v ≤ hi)

/-- The sequence length of an order (R3). -/
def lengthOf (order : Nat) : Nat := 2 ^ order - 1

/-- L of a pair. -/
def PairConfig.length (c : PairConfig) : Nat := lengthOf c.order

/-- The quiet time Tq in milliseconds: 2 × line delay + 100 (spec/01, under R9). -/
def PairConfig.quietTime (c : PairConfig) : Nat := 2 * c.lineDelay + 100

/-- REFCLK cycles in a chip of a chip code (R1). -/
def chipCycles (code : Nat) : Nat := 16 * 2 ^ code

/-- Whether every window of the list fits a sequence length at its upper edge (R11). -/
def windowsFit (records : List RepeaterRecord) (length : Nat) : Bool :=
  records.all fun r => decide (r.nominalLag + r.driftLimit + r.halfWidth ≤ length - 1)

/-- Whether parameter `n` of a request passes R11: its range or listed values (R9), confirm M against confirm N,
the window fit of the order, and the policy of a class. -/
def paramPasses (ps : List Nat) (records : List RepeaterRecord) (n : Nat) : Bool :=
  let v := param ps n
  match n with
  | 1 => inRange v 12 16 && windowsFit records (lengthOf v)
  | 2 => inRange v 0 4
  | 3 => inRange v 1 1024
  | 4 => inRange v 1 255
  | 5 => inRange v 1 100
  | 6 => inRange v 1 32767
  | 7 => inRange v 1 15
  | 8 => inRange v 1 16 && decide (v ≤ param ps 9)
  | 9 => inRange v 1 16
  | 10 => inRange v 1 16
  | 11 => inRange v 1 8
  | 12 => inRange v 0 1
  | 13 => inRange v 0 1
  | 14 => inRange v 0 1
  | 15 => v == 5 || v == 10
  | 16 => inRange v 10 500
  | 17 => inRange v 1024 262144
  | 18 => inRange v 0 3
  | 19 => v == 256 || v == 2048
  | 20 => inRange v 0 2047
  | 21 => inRange v 1 2047
  | 22 => inRange v 100 1000
  | 23 => inRange v 1 60
  | 24 => inRange v 10 100
  | 25 => inRange v 100 5000
  | 26 => inRange v 0 1
  | 27 => policyFits .break v
  | 28 => policyFits .loopbackLoss v
  | 29 => policyFits .dip v
  | 30 => policyFits .step v
  | 31 => policyFits .surge v
  | 32 => policyFits .unstable v
  | _ => true

/-- The first failing parameter, in number order (R10, R11). -/
def firstFailing (ps : List Nat) (records : List RepeaterRecord) : Option Nat :=
  ((List.range 32).map (· + 1)).find? fun n => !paramPasses ps records n

end Sys2Proof.Machine
end

