-- ==== Sys2Proof/Machine/Formats.lean ====
section
/-! DEFINITION. The data of replies and notices at the level of bytes (R184 to R191). -/

namespace Sys2Proof.Machine

/-- An absent field of a fixed-length record is sent as zeros (R185). -/
def zeros (n : Nat) : List Byte := List.replicate n 0

/-- A one-byte number. -/
def u8 (n : Nat) : List Byte := [BitVec.ofNat 8 n]

/-- A two-byte number. -/
def u16 (n : Nat) : List Byte := be16 (BitVec.ofNat 16 n)

/-- A three-byte number. -/
def u24 (n : Nat) : List Byte := BitVec.ofNat 8 (n / 65536) :: u16 n

/-- A four-byte number. -/
def u32 (n : Nat) : List Byte := be32 (BitVec.ofNat 32 n)

/-- A signed two-byte number, two's complement. -/
def s16 (x : Int) : List Byte := be16 (BitVec.ofInt 16 x)

/-- A one-byte offset; absence is sent as 0x80 (R185). -/
def offsetByte : Option Int → List Byte
  | some d => [BitVec.ofInt 8 d]
  | none => [0x80]

/-- Line time in 6 bytes: seconds in 4, the fraction in 2 (R184). -/
def LineTime.encode (t : LineTime) : List Byte := be32 t.seconds ++ u16 t.fraction

/-- An absent line time is sent as zeros (R185). -/
def encodeTime : Option LineTime → List Byte
  | some t => t.encode
  | none => zeros 6

/-- A sweep number in 6 bytes (R184). -/
def sweepBytes (n : BitVec 48) : List Byte :=
  [n.extractLsb' 40 8, n.extractLsb' 32 8, n.extractLsb' 24 8, n.extractLsb' 16 8, n.extractLsb' 8 8,
    n.extractLsb' 0 8]

/-- A byte from at most eight bits, bit 0 first. In what the part sends, the bits beyond those given name no item and
are 0: DESIGN CHOICE, log entry 31. -/
def byteOf (bits : List Bool) : Byte :=
  bits.foldr (fun b acc => (acc <<< 1) ||| boolCode b) 0

/-- The 16-bit field of a pair's ten flags, high byte first (R191). Bits 10 to 15 are sent 0: DESIGN CHOICE, log entry
31. -/
def PairFlags.encode (f : PairFlags) : List Byte := [byteOf (f.toList.drop 8), byteOf (f.toList.take 8)]

/-- The flag set, 9 bytes (R191). Bits 2 to 7 of byte 0 are sent 0: DESIGN CHOICE, log entry 31. -/
def EventFlags.encode (f : EventFlags) : List Byte :=
  [byteOf [f.frameError, f.portOverrun]] ++ f.pairs.p1.encode ++ f.pairs.p2.encode ++ f.pairs.p3.encode
    ++ f.pairs.p4.encode

/-- The bits of a byte, bit 0 first. -/
def bitsOf (b : Byte) : List Bool := (List.range 8).map b.getLsbD

/-- Two bytes of a selection read as a pair's ten flags; `none` when a bit names no flag (R175, R185). -/
def pairSelection (hi lo : Byte) : Option PairFlags :=
  if hi.toNat < 4 then some (.ofList (bitsOf lo ++ [hi.getLsbD 0, hi.getLsbD 1])) else none

/-- A selection in flag-set layout (R175, R191). -/
def selectionOf : List Byte → Option EventFlags
  | [p, a1, a0, b1, b0, c1, c0, d1, d0] =>
    if p.toNat < 4 then
      match pairSelection a1 a0, pairSelection b1 b0, pairSelection c1 c0, pairSelection d1 d0 with
      | some a, some b, some c, some d => some ⟨p.getLsbD 0, p.getLsbD 1, ⟨a, b, c, d⟩⟩
      | _, _, _, _ => none
    else none
  | _ => none

/-- The mask, 12 bytes, one per kind (R191). -/
def NoticeMask.encode (m : NoticeMask) : List Byte :=
  [boolCode m.frameError, boolCode m.portOverrun] ++ m.kinds.toList.map boolCode

/-- Twelve settings; `none` when one is neither ENABLED nor DISABLED (R174). -/
def maskOf (bs : List Byte) : Option NoticeMask :=
  match bs with
  | f :: o :: kinds =>
    if bs.all (fun b => decide (b.toNat < 2)) then
      some ⟨f == 1, o == 1, .ofList (kinds.map (· == 1))⟩
    else none
  | _ => none

/-- The load record of a record as it stands (R187). -/
def RepeaterRecord.encode (r : RepeaterRecord) : List Byte :=
  u8 r.index ++ u16 r.address ++ u16 r.nominalLag ++ u8 r.halfWidth ++ u8 r.driftLimit ++ u16 r.baseline
    ++ u16 r.lowRatio ++ u16 r.highRatio ++ u16 (r.presence.getD 0) ++ [boolCode r.excluded]

/-- The pending block of a record's edits, 9 bytes: the change bits 0 to 4, then low, high, presence and baseline
(spec/11, under R186). Bits 5 to 7 of the first byte are sent 0: DESIGN CHOICE, log entry 31. -/
def PendingEdits.encode (e : PendingEdits) : List Byte :=
  [byteOf [e.low.isSome, e.high.isSome, (match e.presence with | some (some _) => true | _ => false),
      (match e.presence with | some none => true | _ => false), e.baseline.isSome]]
    ++ u16 (e.low.getD 0) ++ u16 (e.high.getD 0)
    ++ u16 (match e.presence with | some (some v) => v | _ => 0) ++ u16 (e.baseline.getD 0)

/-- Ap, δ, ratio and validity of a measurement, or their absence (R185). -/
def encodeMeasured : Option Measured → List Byte
  | some m => s16 m.ap ++ [BitVec.ofInt 8 m.delta] ++ u16 m.ratio ++ [m.validity.code]
  | none => [(0 : Byte), 0, 0x80, 0, 0, 0]

/-- Whether learning is active, and the learn sum and count while it is (R52). -/
def learnFields (learning : Bool) (r : RepeaterRecord) : List Byte :=
  if learning then 1 :: (u24 r.learnSum ++ u8 r.learnCount) else zeros 5

/-- The repeater block of READ REPEATER (spec/11, under R186); `learning` says that learning is active on the
pair. -/
def repeaterBlock (learning : Bool) (r : RepeaterRecord) : List Byte :=
  r.encode ++ r.edits.encode ++ u16 r.centre ++ [r.lock.code] ++ u8 r.missCount ++ offsetByte r.remembered
    ++ [r.trackSign.code, boolCode r.driftReached]
    ++ [boolCode r.last.isSome] ++ encodeMeasured r.last
    ++ offsetByte r.lastValidOffset
    ++ [boolCode r.lastLockedAmp.isSome] ++ s16 (r.lastLockedAmp.getD 0)
    ++ u8 r.history.length ++ r.history.map EchoOutcome.code ++ zeros (16 - r.history.length)
    ++ [boolCode r.excludedByMute, boolCode r.learnIncomplete]
    ++ learnFields learning r

/-- A result record, 16 bytes (R188). -/
def SweepResult.encode (r : SweepResult) : List Byte :=
  u8 r.index ++ [boolCode r.inPlan] ++ u16 r.centreUsed ++ u16 r.centreAfter ++ u8 r.halfWidth
    ++ encodeMeasured r.measured ++ [r.outcome.code, r.lock.code, boolCode r.driftReached]

/-- One bin of a trace: amplitude and marks (R188). Bits 2 to 7 of the marks are sent 0: DESIGN CHOICE, log entry 31. -/
def BinResult.encode (b : BinResult) : List Byte := s16 b.amplitude ++ [byteOf [b.saturated, b.clipped]]

/-- The trace of READ TRACE (R188). -/
def SweepResult.trace (r : SweepResult) : List Byte :=
  u8 r.index ++ u16 r.centreUsed ++ u8 r.halfWidth ++ encodeMeasured r.measured ++ u8 r.bins.length
    ++ r.bins.flatMap BinResult.encode

/-- Milliseconds in a count of REFCLK cycles, discarding the remainder (R165). -/
def msOf (cycles : Nat) : Nat := cycles / Config.cyclesPerMs

/-- The timers and guard of a role state, a field it does not hold as zeros (R165, spec/11 under R186). -/
def Role.encodeTimers : Role → List Byte
  | .claiming t q =>
    u32 (msOf t) ++ [q.code] ++ u32 (msOf (match q with | .counting n => n | _ => 0))
      ++ zeros 8
  | .holder c =>
    zeros 9 ++ [c.code] ++ u32 (msOf (match c with | .counting n => n | .idle => 0))
      ++ zeros 3
  | .yielding m p e => zeros 14 ++ u8 m.code ++ [boolCode p, boolCode e]
  | _ => zeros 17

/-- The last role event, or its absence (R165). -/
def encodeRoleEvent : Option RoleEvent → List Byte
  | some e => [1, e.left.code, e.entered.code, e.cause.code] ++ e.time.encode
  | none => zeros 10

/-- The role block of READ ROLE (R165, spec/11 under R186). -/
def roleBlock (e : EndSetting) (q : PairState) : List Byte :=
  [q.role.name.code, endCode e, boolCode q.det.farPresent, boolCode q.det.lossDeclared]
    ++ q.role.encodeTimers ++ encodeRoleEvent q.lastRole

/-- The learning state: state, mode, target, counted, suspended (R111). -/
def LearnState.encode : LearnState → List Byte
  | .idle => [0, 0, 0, 0, 0]
  | .active m t c x => [(1 : Byte), m.code] ++ u8 t ++ u8 c ++ u8 x

/-- The last learning result: kind, cause, sweep number, line time, replaced, incomplete (R111). -/
def LearnResult.encode : LearnResult → List Byte
  | .nothing => zeros 16
  | .finished n t r i => [(1 : Byte), 0] ++ sweepBytes n ++ t.encode ++ u8 r ++ u8 i
  | .abandoned c n t => [(2 : Byte), c.code] ++ sweepBytes n ++ t.encode ++ [0, 0]

/-- The data of READ LEARNING (R111, R186). -/
def learningBlock (q : PairState) : List Byte :=
  q.learn.encode ++ [boolCode q.hold] ++ q.lastLearn.encode

/-- The step and its waiting command and pass-over mark: bytes 37 to 41 of a fault record (R189). -/
def Step.encode (t : Step) : List Byte :=
  match t with
  | .waitingForQueue c a f => [t.code, c.code, BitVec.ofNat 8 a, f.code, 0]
  | .verifying m => [t.code, 0, 0, 0, boolCode m]
  | .querying | .commanding | .done => [t.code, 0, 0, 0, 0]

/-- An action part, or its absence: bytes 35 to 46 of a fault record (R189). -/
def encodeAction : Option ActionPart → List Byte
  | some a =>
    u8 a.action.code ++ [a.origin.code] ++ a.step.encode ++ [boolCode a.statusWord.isSome]
      ++ be16 (a.statusWord.getD 0) ++ u8 a.verified ++ [a.result.code]
  | none => zeros 12

/-- A fault record, 47 bytes (R189). Bits 6 and 7 of its indicators are sent 0: DESIGN CHOICE, log entry 31. -/
def FaultRecord.encode (r : FaultRecord) : List Byte :=
  u16 r.id ++ u8 (pairNumber r.pair) ++ u8 r.first ++ u8 r.last ++ [r.cls.code, r.state.code]
    ++ [byteOf [r.confirmed.isSome, r.cleared.isSome, r.worst.isSome, r.masked, r.neverConfirmed, r.action.isSome]]
    ++ r.openedTime.encode ++ sweepBytes r.openedSweep ++ encodeTime r.confirmed ++ encodeTime r.cleared
    ++ u16 (r.worst.getD 0) ++ u8 r.absence ++ encodeAction r.action

/-- The summary of LIST FAULTS, 17 bytes (R189). -/
def FaultRecord.summary (r : FaultRecord) : List Byte :=
  u16 r.id ++ u8 (pairNumber r.pair) ++ u8 r.first ++ u8 r.last ++ [r.cls.code, r.state.code, boolCode r.masked]
    ++ u8 r.absence ++ sweepBytes r.openedSweep
    ++ (match r.action with | some a => [1, a.result.code] | none => [0, 0])

/-- The tag of a host entry, in the low byte, or the fault id of a fault entry (R190). -/
def Origin.encode : Origin → List Byte
  | .host t => [0, t]
  | .fault i => u16 i

/-- Line time a number of REFCLK cycles from now (R122). -/
def Timebase.after (t : Timebase) (cycles : Nat) : LineTime :=
  let fractions := t.fraction + (t.cycles + cycles) / Config.cyclesPerFraction
  ⟨t.seconds + BitVec.ofNat 32 (fractions / 1024), fractions % 1024⟩

/-- The data bits of a reply: 16 for a QUERY, 8 for the others (R123). -/
def dataBits : Command → Nat
  | .query => 16
  | _ => 8

/-- The REFCLK cycles from T0 to the reply deadline (R123). -/
def Captured.replySpan (c : Captured) (command : Command) : Nat :=
  (2 + dataBits command + 8 + 1) * c.replyBit * chipCycles c.chipCode

/-- The three times as READ QUEUE carries them (R190). -/
def ReplyTimes.encode (t : ReplyTimes) : List Byte := t.frameEnd.encode ++ t.start.encode ++ t.deadline.encode

/-- The times of an exchange whose T0 is now; the stamps stand from here on (R122, R123, R179). -/
def Captured.stampReply (c : Captured) (command : Command) (frameEnd : LineTime) (now : Timebase) : ReplyTimes where
  frameEnd := frameEnd
  start := ⟨now.seconds, now.fraction⟩
  deadline := now.after (c.replySpan command)

/-- The times of an exchange whose T0 lies a number of REFCLK cycles ahead: the line time that the Timebase, as it
stands, will hold at them (R122, R123). DESIGN CHOICE: log entry 23. -/
def Captured.foreseeReply (c : Captured) (command : Command) (frameEnd : LineTime) (now : Timebase) (left : Nat) :
    ReplyTimes where
  frameEnd := frameEnd
  start := now.after left
  deadline := now.after (left + c.replySpan command)

/-- The reply data field of two bytes: the data from the first byte on, zeros behind it (R190, R191). DESIGN CHOICE of
the place of a one-byte acknowledgement: log entry 30. -/
def replyData (bs : List Byte) : List Byte := (bs ++ [0, 0]).take 2

/-- Result, data length and data of an entry (R190). -/
def EntryState.encodeResult : EntryState → List Byte
  | .done r bs _ => [r.code] ++ u8 bs.length ++ replyData bs
  | _ => [0, 0, 0, 0]

/-- The reply bit values, first bit read in the most significant place (R190). The places of bits not read are sent 0:
DESIGN CHOICE, log entry 31. -/
def replyBitsBytes (bits : List Bool) : List Byte :=
  let n := (bits ++ List.replicate (32 - bits.length) false).foldl (fun acc b => 2 * acc + (if b then 1 else 0)) 0
  u32 n

/-- E, T0 and the deadline of an exchange in flight, zeros before its frame has ended (R132, R190). -/
def Phase.encodeTimes (ph : Phase) (c : Captured) (command : Command) (now : Timebase) : List Byte :=
  match ph with
  | .awaitingReply frameEnd left => (c.foreseeReply command frameEnd now left).encode
  | .replyDue times => times.encode
  | .receiving times .. => times.encode
  | .toneWait | .transmitting .. => zeros 18

/-- The number and values of the reply bits read (R190). -/
def Phase.encodeBits : Phase → List Byte
  | .receiving _ bits _ _ => u8 bits.length ++ replyBitsBytes bits
  | _ => zeros 5

/-- Bytes 15 to 44 of a queue entry: what an entry in flight also shows (R132, R190). -/
def EntryState.encodeFlight (st : EntryState) (command : Command) (now : Timebase) : List Byte :=
  match st with
  | .inFlight c ph =>
    [ph.code] ++ u16 c.address
      ++ (match c.target with
          | some t => u16 t.replyLag ++ u16 t.threshold
          | none => [0, 0, 0, 0])
      ++ ph.encodeTimes c command now ++ ph.encodeBits
  | _ => zeros 30

/-- A queue entry at a position, 45 bytes (R190). -/
def QueueEntry.encode (e : QueueEntry) (now : Timebase) (position : Nat) : List Byte :=
  u8 position ++ [e.state.code, e.origin.code] ++ e.origin.encode ++ u8 (pairNumber e.pair) ++ u8 e.index
    ++ [e.command.code] ++ u8 e.argument ++ u8 e.retries ++ u8 e.attempts ++ e.state.encodeResult
    ++ e.state.encodeFlight e.command now

/-- The entries of the queue with their positions from a number on, read at a time (R132). -/
def encodeQueue (now : Timebase) : Nat → List QueueEntry → List Byte
  | _, [] => []
  | n, e :: rest => e.encode now n ++ encodeQueue now (n + 1) rest

/-- The event notice, formed as its transmission begins (R174, R191). -/
def eventNotice (s : State) : Frame :=
  ⟨0x7E, 0, s.port.flags.encode ++ s.port.mask.encode ++ LineTime.encode ⟨s.time.seconds, s.time.fraction⟩⟩

/-- The supervisory-result notice of a host-origin entry in state DONE (R133, R191). -/
def resultNotice (e : QueueEntry) : Frame :=
  ⟨0x7F, 0,
    (match e.origin with | .host t => [t] | .fault _ => [(0 : Byte)]) ++ u8 (pairNumber e.pair) ++ u8 e.index
      ++ [e.command.code] ++ u8 e.argument
      ++ (match e.state with
          | .done r bs _ => [r.code] ++ u8 e.attempts ++ u8 bs.length ++ replyData bs
          | _ => [(0 : Byte)] ++ u8 e.attempts ++ [0, 0, 0])⟩

/-- The data of IDENTIFY (R176, R186). -/
def identityData (s : State) : List Byte :=
  be16 Config.partCode ++ [Config.revision, endCode s.endSetting,
      BitVec.ofNat 8 (2 * s.rate1.toNat + s.rate0.toNat), 4]
    ++ u8 Config.maxRecords ++ u8 Config.maxFaults ++ u8 Config.maxEntries ++ u8 Config.maxRequests
    ++ u8 Config.maxReplies ++ u8 Config.pageRecords

end Sys2Proof.Machine
end

