-- ==== Sys2Proof/Machine/Probe.lean ====
section
/-! DEFINITION. The probe sequences (R3, R4), the drive word (R5, R6) and the mean rounding rules (spec/00,
Rounding). -/

namespace Sys2Proof.Machine

/-- The recurrence of an order: from the bits a(t), a(t+1), … held in bits 0, 1, … of the register, the bit
a(t+n) (R3). -/
def probeFeedback (order : Nat) (r : BitVec 16) : Bool :=
  match order with
  | 12 => r.getLsbD 6 ^^ r.getLsbD 4 ^^ r.getLsbD 1 ^^ r.getLsbD 0
  | 13 => r.getLsbD 4 ^^ r.getLsbD 3 ^^ r.getLsbD 1 ^^ r.getLsbD 0
  | 14 => r.getLsbD 5 ^^ r.getLsbD 3 ^^ r.getLsbD 1 ^^ r.getLsbD 0
  | 15 => r.getLsbD 14 ^^ r.getLsbD 0
  | _ => r.getLsbD 15 ^^ r.getLsbD 13 ^^ r.getLsbD 4 ^^ r.getLsbD 0

/-- The register one position later: a(t+1) in bit 0, a(t+n) in bit n-1. -/
def probeNext (order : Nat) (r : BitVec 16) : BitVec 16 :=
  (r >>> 1) ||| (if probeFeedback order r then BitVec.ofNat 16 (2 ^ (order - 1)) else 0)

/-- The register that holds a(t)..a(t+n-1); at t = 0 all ones (R3). -/
def probeRegister (order : Nat) : Nat → BitVec 16
  | 0 => BitVec.ofNat 16 (2 ^ order - 1)
  | t + 1 => probeNext order (probeRegister order t)

/-- The bit a(t) of the probe sequence of an order (R3). -/
def probeBit (order t : Nat) : Bool := (probeRegister order t).getLsbD 0

/-- The chip at a sequence position: +1 for 1 and −1 for 0 (R3). -/
def chipValue (order position : Nat) : Int := if probeBit order position then 1 else -1

/-- chip(t − d) for a chip t at sequence position `position`: the chip at (position − d) mod L (R4). -/
def chipBefore (order position d : Nat) : Int :=
  let l := lengthOf order
  chipValue order ((position + (l - d % l)) % l)

/-- Round to nearest, ties away from zero (spec/00, Rounding). -/
def roundTiesAway (num : Int) (den : Nat) : Int :=
  let q : Nat := (2 * num.natAbs + den) / (2 * den)
  if num < 0 then -(q : Int) else (q : Int)

/-- Round half up, for a number that is not negative (spec/00, Rounding). -/
def roundHalfUp (num den : Nat) : Nat := (2 * num + den) / (2 * den)

/-- A value held within limits. -/
def clampInt (lo hi x : Int) : Int := max lo (min hi x)

/-- The chip field of a drive word (R5). -/
inductive ChipField where
  | off | plus | minus
  deriving DecidableEq, Repr

/-- The drive word of a pair: DRV_CHIP, DRV_LEVEL, DRV_TONE. -/
structure DriveWord where
  chip  : ChipField
  level : Nat
  tone  : Tone
  deriving DecidableEq, Repr

/-- The byte of a command frame's symbols: start F2, eight data bits least significant first, stop F1 (R119). -/
def byteSymbols (b : Byte) : List Tone :=
  .f2 :: ((List.range 8).map fun i => if b.getLsbD i then Tone.f1 else .f2) ++ [.f1]

/-- The complement of a sum of bytes: CHECK brings the covered bytes to a multiple of 256 (R120). -/
def checkByte (bs : List Byte) : Byte := 0 - bs.foldl (· + ·) 0

/-- ADDR_H and ADDR_L (R192). -/
def addressBytes (address : Nat) : List Byte := [BitVec.ofNat 8 (address / 256), BitVec.ofNat 8 (address % 256)]

/-- The bytes CHECK covers beyond those given: the address in ENHANCED mode (R120). -/
def checkedBytes (mode : CheckMode) (address : Nat) (bs : List Byte) : List Byte :=
  match mode with
  | .classic => bs
  | .enhanced => addressBytes address ++ bs

/-- The five bytes of a command frame (R119, R120). -/
def commandBytes (c : Captured) (command : Command) (argument : Nat) : List Byte :=
  let body := [command.code, BitVec.ofNat 8 argument]
  addressBytes c.address ++ body ++ [checkByte (checkedBytes c.checkMode c.address body)]

/-- The 66 symbols of a command frame: 16 wake symbols, then five bytes of ten (R119, R192). -/
def commandSymbols (c : Captured) (command : Command) (argument : Nat) : List Tone :=
  ((List.range 16).map fun i => if i % 2 = 0 then Tone.f1 else .f2)
    ++ (commandBytes c command argument).flatMap byteSymbols

/-- The tone of symbol `k`, 1..66. -/
def symbolTone (c : Captured) (command : Command) (argument k : Nat) : Tone :=
  (commandSymbols c command argument).getD (k - 1) .off

/-- The symbol at whose end a mismatch in symbol `k` stops the transmission: itself in the wake burst, the stop
symbol of its byte elsewhere (R121, R192). -/
def stopSymbol (k : Nat) : Nat := if k ≤ 16 then k else 16 + 10 * ((k - 17) / 10 + 1)

end Sys2Proof.Machine
end

