-- ==== Sys2Proof/Machine/Ops.lean ====
section
/-! DEFINITION. The shared operations: one pair's state, records and entries, the tone field, line time, the
transmitter's choice, and how a command row is taken. -/

namespace Sys2Proof.Machine

/-! ### Parts of the state -/

/-- What the part holds for one pair. -/
def State.pair (s : State) (p : Pair) : PairState := s.pairs.get p

/-- One pair's state replaced. -/
def State.setPair (s : State) (p : Pair) (q : PairState) : State := { s with pairs := s.pairs.set p q }

/-- One pair's state changed. -/
def State.modPair (s : State) (p : Pair) (f : PairState → PairState) : State := s.setPair p (f (s.pair p))

/-- Line time now (R179). -/
def State.now (s : State) : LineTime := ⟨s.time.seconds, s.time.fraction⟩

/-- The first element that fits, changed. -/
def modFirst {α : Type} (fits : α → Bool) (f : α → α) : List α → List α
  | [] => []
  | x :: xs => if fits x then f x :: xs else x :: modFirst fits f xs

/-- The first element that fits, removed. -/
def dropFirst {α : Type} (fits : α → Bool) : List α → List α
  | [] => []
  | x :: xs => if fits x then xs else x :: dropFirst fits xs

/-- The record of an index in a list. -/
def recordAt (rs : List RepeaterRecord) (i : Nat) : Option RepeaterRecord := rs.find? fun r => r.index == i

/-- The record of an index, changed. -/
def modRecord (rs : List RepeaterRecord) (i : Nat) (f : RepeaterRecord → RepeaterRecord) : List RepeaterRecord :=
  rs.map fun r => if r.index = i then f r else r

/-- The fault record of an id. -/
def State.faultAt (s : State) (id : Nat) : Option FaultRecord := s.faults.find? fun r => r.id == id

/-- The fault record of an id, changed. -/
def State.modFault (s : State) (id : Nat) (f : FaultRecord → FaultRecord) : State :=
  { s with faults := s.faults.map fun r => if r.id = id then f r else r }

/-- Whether an entry is IN FLIGHT. -/
def QueueEntry.isInFlight (e : QueueEntry) : Bool :=
  match e.state with
  | .inFlight .. => true
  | _ => false

/-- Whether an entry is WAITING. -/
def QueueEntry.isWaiting (e : QueueEntry) : Bool :=
  match e.state with
  | .waiting => true
  | _ => false

/-- The exchange in flight, if there is one (R113). -/
def State.flight (s : State) : Option QueueEntry := s.queue.find? QueueEntry.isInFlight

/-- Whether an exchange of the pair is in flight. -/
def State.inFlightOn (s : State) (p : Pair) : Bool :=
  s.queue.any fun e => e.isInFlight && decide (e.pair = p)

/-- The exchange in flight, changed. -/
def State.modFlight (s : State) (f : QueueEntry → QueueEntry) : State :=
  { s with queue := modFirst QueueEntry.isInFlight f s.queue }

/-- An entry in flight goes to another phase; an entry in another state is kept. -/
def QueueEntry.withPhase (e : QueueEntry) (ph : Phase) : QueueEntry :=
  match e.state with
  | .inFlight c _ => { e with state := .inFlight c ph }
  | _ => e

/-! ### Line time -/

/-- One fraction increment: the cycle count returns to 0 and the fraction rises, carrying into the seconds
(R179). -/
def Timebase.increment (t : Timebase) : Timebase :=
  if t.fraction < 1023 then { t with fraction := t.fraction + 1, cycles := 0 }
  else { seconds := t.seconds + 1, fraction := 0, cycles := 0 }

/-! ### The transmitter (R172) -/

/-- A host-origin entry in state DONE whose notice has not begun (R172). -/
def QueueEntry.noticeDue (e : QueueEntry) : Bool :=
  match e.origin, e.state with
  | .host _, .done _ _ false => true
  | _, _ => false

/-- A host-origin entry whose notice is being sent. -/
def QueueEntry.noticeSending (e : QueueEntry) : Bool :=
  match e.origin, e.state with
  | .host _, .done _ _ true => true
  | _, _ => false

/-- The notice of an entry has begun. -/
def QueueEntry.beginNotice (e : QueueEntry) : QueueEntry :=
  match e.state with
  | .done r bs _ => { e with state := .done r bs true }
  | _ => e

/-- The transmitter begins a frame. -/
def State.beginFrame (s : State) (kind : SentKind) (f : Frame) : State :=
  { s with port := { s.port with tx := .sending kind f 0 } }

/-- An IDLE transmitter chooses the next frame: the oldest reply, else the pending event notice, else the
supervisory-result notice of the oldest entry that is due one (R172). Once a RESET reply has been sent nothing more
is sent before the reset (R177). -/
def State.transmit (s : State) : State :=
  if s.port.tx = .idle ∧ s.port.resetPhase ≠ .due then
    match s.port.replies with
    | r :: _ => s.beginFrame .reply r
    | [] =>
      if s.port.noticePending then
        { s with port := { s.port with tx := .sending .eventNotice (eventNotice s) 0, noticePending := false } }
      else
        match s.queue.find? QueueEntry.noticeDue with
        | some e =>
          { (s.beginFrame .resultNotice (resultNotice e)) with
            queue := modFirst QueueEntry.noticeDue QueueEntry.beginNotice s.queue }
        | none => s
  else s

/-- How a command row acts: a part held in reset does nothing (R178); otherwise the row's effect, after which an
IDLE transmitter chooses its next frame (R172). -/
def live (s : State) (effect : State → State) : Host.Outcome State Fault Refusal :=
  if s.inReset then .next s else .next (effect s).transmit

/-! ### Requests and replies (R170, R171) -/

/-- The status of a reply and the data after it. -/
structure Answer where
  status : Status
  data   : List Byte
  deriving DecidableEq, Repr

/-- A reply of a taken request. -/
def Answer.ok (data : List Byte) : Answer := ⟨.ok, data⟩

def Answer.accepted (data : List Byte) : Answer := ⟨.accepted, data⟩

/-- A refused reply: the status and two detail bytes (spec/11, Request payloads and replies). -/
def Answer.refused (st : Status) (detail1 detail2 : Byte := 0) : Answer := ⟨st, [detail1, detail2]⟩

/-- The reply frame: the request's TYPE with 0x80 added, its TAG, the status and the data (R171). The sum is taken modulo
256, which concerns an unknown TYPE of 0x80 or more: DESIGN CHOICE, log entry 29. -/
def Answer.frame (a : Answer) (typ tag : Byte) : Frame := ⟨typ + 0x80, tag, a.status.code :: a.data⟩

/-- The end of a request's step: its reply joins the newest end of the reply queue (R171). -/
def State.answer (typ tag : Byte) (x : State × Answer) : State :=
  { x.1 with port := { x.1.port with replies := x.1.port.replies ++ [x.2.frame typ tag] } }

/-- Whether the Message Port may take a request: the reply queue holds fewer than 4 replies (R171), and no RESET
has been taken (R177). -/
def State.mayTake (s : State) : Bool :=
  decide (s.port.replies.length < Config.maxReplies) && decide (s.port.resetPhase = .inactive)

/-- A good frame joins the newest end of the request queue, or is discarded with PORT OVERRUN (R170). -/
def State.joinRequests (s : State) (f : Frame) : State :=
  if s.port.requests.length < Config.maxRequests then
    { s with port := { s.port with requests := s.port.requests ++ [f] } }
  else s.setPartFlag .portOverrun

/-- A request is taken and handled: a payload that does not fit its TYPE is refused with BAD LENGTH, any other is
handed to the rule that owns it, and the reply joins the reply queue (R171). -/
def State.handleWith (tag : Byte) (r : Request) (owner : State → State × Answer) (s : State) : State :=
  State.answer r.typ tag (if r.fits then owner s else (s, .refused .badLength))

/-- A host request row: the request's good frame has arrived. It is taken at once when the Message Port may take a
request and none waits before it; otherwise it joins the request queue or is discarded with PORT OVERRUN (R170,
R171). DESIGN CHOICE: log entry 1. -/
def request (tag : Byte) (r : Request) (owner : State → State × Answer) (s : State) :
    Host.Outcome State Fault Refusal :=
  live s fun s =>
    if s.mayTake && s.port.requests.isEmpty then s.handleWith tag r owner else s.joinRequests (r.frame tag)

/-- A request that names a pair: a number outside 1..4 refuses it with BAD VALUE and zero details. -/
def withPair (b : Byte) (f : Pair → State → State × Answer) (s : State) : State × Answer :=
  match pairOf b with
  | some p => f p s
  | none => (s, .refused .badValue)

/-! ### Roles (R152) -/

/-- Every change of a pair's role state sets its ROLE CHANGE flag and replaces the last role event (R152). -/
def State.setRole (s : State) (p : Pair) (r : Role) (cause : RoleCause) : State :=
  (s.modPair p fun q => { q with role := r, lastRole := some ⟨q.role.name, r.name, cause, s.now⟩ }).setPairFlag
    p .roleChange

/-! ### The tone field (R6, R7) -/

/-- The entry in flight begins its transmission at the first wake symbol (R119). -/
def State.beginTransmission (s : State) : State :=
  s.modFlight fun e => e.withPhase (.transmitting 1 0 false none)

/-- The tone field of a pair becomes free: the first that asked while it was held starts now (R7). -/
def State.releaseTone (s : State) (p : Pair) : State :=
  match (s.pair p).tone.waiting with
  | [] => s.modPair p fun q => { q with tone := .silent }
  | .keepBurst :: rest => s.modPair p fun q => { q with tone := ⟨.keepBurst 0, rest⟩ }
  | .commandFrame :: rest => (s.modPair p fun q => { q with tone := ⟨.commandFrame, rest⟩ }).beginTransmission

/-- Whether a keep burst of the pair is running or waiting (R7). -/
def ToneField.hasKeep (t : ToneField) : Bool :=
  match t.use with
  | .keepBurst _ => true
  | _ => t.waiting.contains .keepBurst

/-- A keep burst is ordered: absorbed by one running or waiting, started if the field is free, and held until it is
free otherwise (R7). -/
def State.orderKeep (s : State) (p : Pair) : State :=
  s.modPair p fun q =>
    if q.tone.hasKeep then q
    else if q.tone.use = .free then { q with tone := { q.tone with use := .keepBurst 0 } }
    else { q with tone := { q.tone with waiting := q.tone.waiting ++ [.keepBurst] } }

/-- An attempt of the exchange in flight asks for the pair's tone field (R119). -/
def State.askTone (s : State) (p : Pair) : State :=
  if (s.pair p).tone.use = .free then
    (s.modPair p fun q => { q with tone := { q.tone with use := .commandFrame } }).beginTransmission
  else
    (s.modPair p fun q => { q with tone := { q.tone with waiting := q.tone.waiting ++ [.commandFrame] } }).modFlight
      fun e => e.withPhase .toneWait

/-- A pair that enters PARKED, LISTEN or LOCAL sends nothing: chip off, level 0, tone none, and any burst running or
waiting dropped (R5, R6). -/
def PairState.silence (q : PairState) : PairState := { q with tone := .silent, probeOn := false }

/-- The tone on a pair's tone field (R6). -/
def State.toneOut (s : State) (p : Pair) : Tone :=
  match (s.pair p).tone.use with
  | .free => .off
  | .claimBurst _ => .f3
  | .keepBurst _ => .f4
  | .lastSymbol t _ => t
  | .commandFrame =>
    match s.flight with
    | some e =>
      match e.state with
      | .inFlight c (.transmitting k _ _ _) => symbolTone c e.command e.argument k
      | _ => .off
    | none => .off

/-- The drive word of a pair: the probe in HOLDER and YIELDING from the first chip boundary after HOLDER was
entered, and the tone field (R5, R6). -/
def State.driveWord (s : State) (p : Pair) : DriveWord :=
  let q := s.pair p
  let lit := q.probeOn && (q.role.name = .holder || q.role.name = .yielding)
  { chip := if lit then (if probeBit q.config.order q.clock.chip then .plus else .minus) else .off
    level := if lit then q.config.level else 0
    tone := s.toneOut p }

end Sys2Proof.Machine
end

