-- ==== Sys2Proof/Machine/Correlator.lean ====
section
/-! DEFINITION. The correlator bank: loading, accumulation, normalization and window measurements (R32 to R41). -/

namespace Sys2Proof.Machine

/-- The limits of a 36-bit sum (R35). -/
def sumMax : Int := 34359738367
def sumMin : Int := -34359738368

/-- A window loaded: 2w+1 bins from centre − w to centre + w, lowest lag first, all clear (R32). -/
def Window.load (w : Window) : BankWindow where
  window := w
  disturbed := false
  bins := (List.range (2 * w.halfWidth + 1)).map fun j => ⟨w.centre + j - w.halfWidth, 0, false, false⟩

/-- The plan of a pass as the bank loads it (R32, R68). -/
def loadPass (p : Pair) (periods : Nat) (ws : List Window) : BankLoad := ⟨p, periods, ws.map Window.load⟩

/-- One product added to a bin, held within the limits; a saturated bin takes no further additions (R35). -/
def Bin.add (b : Bin) (x : Int) : Bin :=
  if b.saturated then b
  else if b.sum + x > sumMax then { b with sum := sumMax, saturated := true }
  else if b.sum + x < sumMin then { b with sum := sumMin, saturated := true }
  else { b with sum := b.sum + x }

/-- One chip of a pass: each bin in use adds return(t) × chip(t − d) (R34). -/
def BankLoad.addChip (l : BankLoad) (order position : Nat) (sample : Int) : BankLoad :=
  { l with windows := l.windows.map fun w =>
      { w with bins := w.bins.map fun b => b.add (sample * chipBefore order position b.lag) } }

/-- The amplitude of a bin at the end of a pass of `n` chips: S × 256 / N rounded to nearest, ties away from zero,
then clamped, with the clipped mark where the clamp changed it (R37). -/
def Bin.normalize (n : Nat) (b : Bin) : BinResult :=
  let a := roundTiesAway (b.sum * 256) n
  let c := clampInt (-32768) 32767 a
  ⟨c, b.saturated, b.clipped || decide (c ≠ a)⟩

/-- The place and amplitude of the largest of a list of bins, the first of equals: scanning from place `i` with the
best so far (R38). -/
def peakFrom : Nat → Nat × Int → List BinResult → Nat × Int
  | _, best, [] => best
  | i, best, b :: rest => peakFrom (i + 1) (if b.amplitude > best.2 then (i, b.amplitude) else best) rest

/-- The peak bin of a window: its place and amplitude (R38). -/
def peakOf : List BinResult → Nat × Int
  | [] => (0, 0)
  | b :: rest => peakFrom 1 (0, b.amplitude) rest

/-- The validity of a window measurement (R39). -/
def validityOf (disturbed : Bool) (bins : List BinResult) : Validity :=
  if bins.any fun b => b.saturated || b.clipped then .overrange
  else if disturbed then .disturbed else .valid

/-- The window measurement at the end of a pass of `n` chips (R38). -/
def BankWindow.measure (n : Nat) (w : BankWindow) : WindowMeasurement :=
  let bins := w.bins.map (Bin.normalize n)
  let peak := peakOf bins
  { index := w.window.index
    centre := w.window.centre
    ap := peak.2
    delta := (peak.1 : Int) - w.window.halfWidth
    bins := bins
    validity := validityOf w.disturbed bins }

/-- The measurements a pass delivers, in plan order (R38, R40); a pass has K × L chips (R33). -/
def BankLoad.measure (l : BankLoad) (length : Nat) : List WindowMeasurement :=
  l.windows.map (BankWindow.measure (l.periods * length))

/-- The window of a record marked disturbed; a record outside the plan marks nothing (R36). -/
def BankLoad.disturb (l : BankLoad) (index : Nat) : BankLoad :=
  { l with windows := l.windows.map fun w => if w.window.index = index then { w with disturbed := true } else w }

/-- The pair whose pass the bank holds. -/
def Bank.holder : Bank → Option Pair
  | .idle => none
  | .armed l => some l.pair
  | .running l _ => some l.pair

/-- Whether the bank runs a pass of the pair. -/
def Bank.runs (b : Bank) (p : Pair) : Bool :=
  match b with
  | .running l _ => decide (l.pair = p)
  | _ => false

/-- Whether the bank is ARMED for the pair. -/
def Bank.armedFor (b : Bank) (p : Pair) : Bool :=
  match b with
  | .armed l => decide (l.pair = p)
  | _ => false

/-- An abort of the pass of a pair: the bank returns to IDLE and nothing is delivered. A pass of another pair is not
touched (R41, R71). -/
def State.abortPass (s : State) (p : Pair) : State :=
  if s.bank.holder = some p then { s with bank := .idle } else s

end Sys2Proof.Machine
end

