-- ==== Sys2Proof/Machine/Sweeps.lean ====
section
/-! DEFINITION. Sweep Control: planning, the bank arbiter, abandonment and the reading of results (R65 to R80). -/

namespace Sys2Proof.Machine

/-- A pair may sweep in HOLDER or LOCAL, with return loss NOT DECLARED and a record that is not excluded (R66). -/
def PairState.maySweep (q : PairState) : Bool :=
  (decide (q.role.name = .holder) || decide (q.role.name = .synthetic)) && !q.det.lossDeclared
    && q.records.any fun r => !r.excluded

/-- The bins of a window. -/
def Window.bins (w : Window) : Nat := 2 * w.halfWidth + 1

/-- Records packed into passes: a record joins the current pass while its bins stay at most 2048, and begins the
next pass otherwise (R67). -/
def packPasses : List Window → Nat → List Window → List (List Window)
  | [], _, [] => []
  | current, _, [] => [current]
  | current, used, w :: rest =>
    if used + w.bins ≤ Config.bankBins then packPasses (current ++ [w]) (used + w.bins) rest
    else current :: packPasses [w] w.bins rest

/-- The windows of the records that are not excluded, in index order (R67, R68). -/
def planWindows (rs : List RepeaterRecord) : List Window :=
  (rs.filter fun r => !r.excluded).map fun r => ⟨r.index, r.centre, r.halfWidth⟩

/-- A fresh sweep of a pair; `await` for one planned at a completion (R67, R70). -/
def PairState.newSweep (q : PairState) (await : Bool) : Sweep where
  passes := packPasses [] 0 (planWindows q.records)
  passNo := 1
  held := []
  stage := .ready
  awaitBoundary := await

/-- A sweep is planned for a pair that is NO SWEEP and may sweep (R66). -/
def State.planSweep (s : State) (await : Bool) (p : Pair) : State :=
  let q := s.pair p
  if q.sweep.isNone && q.maySweep then s.setPair p { q with sweep := some (q.newSweep await) } else s

/-- Whether the pair is PASS READY (R65). -/
def PairState.passReady (q : PairState) : Bool :=
  match q.sweep with
  | some w => decide (w.stage = .ready)
  | none => false

/-- Whether the pair is PASS IN BANK; it stays so until its completion has ended (R65, R70). -/
def PairState.passInBank (q : PairState) : Bool :=
  match q.sweep with
  | some w => decide (w.stage ≠ .ready)
  | none => false

/-- Whether a completion of the pair is to be taken (R74). -/
def PairState.completionDue (q : PairState) : Bool :=
  match q.sweep with
  | some w =>
    match w.stage with
    | .completing _ => true
    | _ => false
  | none => false

/-- The windows of the current pass. -/
def Sweep.currentPass (w : Sweep) : List Window := w.passes.getD (w.passNo - 1) []

/-- The bank granted to a pair: its current pass is loaded and the pointer moves to the pair after it (R69). -/
def State.grant (s : State) (p : Pair) : State :=
  let q := s.pair p
  match q.sweep with
  | some w =>
    { s.setPair p { q with sweep := some { w with stage := .inBank } } with
      bank := .armed (loadPass p q.config.periods w.currentPass)
      pointer := nextPair p }
  | none => s

/-- The four pairs in cyclic order from one of them (R69). -/
def cyclicFrom (p : Pair) : List Pair :=
  [p, nextPair p, nextPair (nextPair p), nextPair (nextPair (nextPair p))]

/-- The bank arbiter: an IDLE bank is granted to the first pair that is PASS READY, from the pointer on (R69). -/
def State.arbitrate (s : State) : State :=
  if s.bank = .idle then
    match (cyclicFrom s.pointer).find? fun p => (s.pair p).passReady with
    | some p => s.grant p
    | none => s
  else s

/-- A pair that may have become able to sweep is planned, and the arbiter decides (R66, R69). -/
def State.considerSweep (s : State) (p : Pair) : State := (s.planSweep false p).arbitrate

/-- A pair whose sweep has ended is planned again if it may sweep, from a pass that waits for its next period boundary,
and the arbiter decides (R66, R69, R70). -/
def State.replan (s : State) (p : Pair) : State := (s.planSweep true p).arbitrate

/-- A pair's sweep is abandoned: its pass in the bank aborted, its plan and held measurements discarded. A sweep whose
last pass has delivered is not abandoned: its completion is taken in full, before the event that would abandon it (R71,
R73, log entry 17). -/
def State.abandonSweep (s : State) (p : Pair) : State :=
  match (s.pair p).sweep with
  | some w =>
    match w.stage with
    | .completing _ => s
    | _ => (s.abortPass p).modPair p fun q => { q with sweep := none }
  | none => s

/-- A GRACEFUL yield: a RUNNING pass goes on; a pass that has not begun is withdrawn and the sweep abandoned
(R72). -/
def State.abandonUnlessRunning (s : State) (p : Pair) : State :=
  if s.bank.runs p then s else s.abandonSweep p

/-! ### Reading results -/

/-- A refresh copies the published sweep into the readout buffer and sets the cursor to 1 (R77). -/
def PairState.refresh (q : PairState) : PairState := { q with readout := q.published, cursor := 1 }

/-- The results a readout buffer holds. -/
def bufferResults : Option PublishedSweep → List SweepResult
  | some b => b.results
  | none => []

/-- Sweep number, time stamp, pass count and record count of a buffer; an empty one gives zeros (R78). -/
def bufferHead : Option PublishedSweep → List Byte
  | some b => sweepBytes b.number ++ b.time.encode ++ u8 b.passCount ++ u8 b.results.length
  | none => zeros 14

/-- The cursor after a page of `n` records from `start` of a buffer of `total` (R78). -/
def cursorAfter (start n total : Nat) : Nat := if total ≤ start - 1 + n then 1 else start + n

/-- A page served from a pair whose refresh, if due, has been made (R78, steps 5 and 6). -/
def servePage (number : Byte) (fromIndex count : Nat) (q : PairState) : PairState × Answer :=
  let results := bufferResults q.readout
  let start := if fromIndex = 0 then q.cursor else fromIndex
  let page := (results.drop (start - 1)).take (min count Config.pageRecords)
  let cursor := if count = 0 then q.cursor else cursorAfter start page.length results.length
  ({ q with cursor := cursor },
    .ok ([number] ++ bufferHead q.readout ++ u8 start ++ u8 page.length ++ [boolCode q.det.lossDeclared]
      ++ page.flatMap SweepResult.encode))

/-- READ RESULTS (R78); the refresh option is examined before the numbered checks (R185). -/
def ownReadResults (pair refresh fromIndex count : Byte) (s : State) : State × Answer :=
  match boolOf refresh with
  | none => (s, .refused .badValue)
  | some wanted => withPair pair (fun p s =>
      let q := s.pair p
      let due := wanted || q.readout.isNone
      let buffer := if due then q.published else q.readout
      if fromIndex.toNat ≠ 0 ∧ (bufferResults buffer).length < fromIndex.toNat then (s, .refused .notFound)
      else
        let x := servePage pair fromIndex.toNat count.toNat (if due then q.refresh else q)
        (s.setPair p x.1, x.2)) s

/-- READ TRACE (R79): the refresh of an empty buffer stands even when the index is then refused. -/
def ownReadTrace (pair index : Byte) (s : State) : State × Answer :=
  withPair pair (fun p s =>
    let q := s.pair p
    let s := if q.readout.isNone then s.setPair p q.refresh else s
    match (s.pair p).readout with
    | none => (s, .refused .notFound)
    | some b =>
      match b.results.find? fun r => r.index == index.toNat with
      | some r => (s, .ok (sweepBytes b.number ++ r.trace))
      | none => (s, .refused .notFound)) s

/-- READ_RESULTS (R78). -/
def execReadResults (tag pair refresh fromIndex count : Byte) (s : State) : Host.Outcome State Fault Refusal :=
  request tag (.readResults pair refresh fromIndex count) (ownReadResults pair refresh fromIndex count) s

/-- READ_TRACE (R79). -/
def execReadTrace (tag pair index : Byte) (s : State) : Host.Outcome State Fault Refusal :=
  request tag (.readTrace pair index) (ownReadTrace pair index) s

end Sys2Proof.Machine
end

