-- ==== Sys2Proof/Machine/Table.lean ====
section
/-! DEFINITION. The Repeater Table: loading, editing and reading records, exclusion, and the record update of a sweep
completion (R42 to R64). -/

namespace Sys2Proof.Machine

def PendingEdits.empty : PendingEdits := ⟨none, none, none, none⟩

/-- The fresh state of a record: its loaded fields stand, everything else restarts (R42). -/
def RepeaterRecord.fresh (r : RepeaterRecord) : RepeaterRecord :=
  { r with
    centre := r.nominalLag
    lock := .search
    missCount := 0
    remembered := none
    trackSign := .unset
    driftReached := false
    last := none
    lastValidOffset := none
    lastLockedAmp := none
    history := []
    edits := .empty
    excludedByMute := false
    learnSum := 0
    learnCount := 0
    learnIncomplete := false }

/-- The record that a validated load record stores, in its fresh state (R45, R187). -/
def RepeaterRecord.ofLoad (l : LoadRecord) : RepeaterRecord where
  index := l.index.toNat
  address := l.address.toNat
  nominalLag := l.nominalLag.toNat
  halfWidth := l.halfWidth.toNat
  driftLimit := l.driftLimit.toNat
  baseline := l.baseline.toNat
  lowRatio := l.lowRatio.toNat
  highRatio := l.highRatio.toNat
  presence := if l.presence.toNat = 0 then none else some l.presence.toNat
  excluded := l.excluded == 1
  centre := l.nominalLag.toNat
  lock := .search
  missCount := 0
  remembered := none
  trackSign := .unset
  driftReached := false
  last := none
  lastValidOffset := none
  lastLockedAmp := none
  history := []
  edits := .empty
  excludedByMute := false
  learnSum := 0
  learnCount := 0
  learnIncomplete := false

/-! ### LOAD REPEATERS -/

/-- Whether field `n` of a load record fails: `length` is L, `expected` the index it must carry and `before` the
nominal lag of the record before it (R44). -/
def loadFieldFails (length expected : Nat) (before : Option Nat) (l : LoadRecord) (n : Nat) : Bool :=
  match n with
  | 1 => decide (l.index.toNat ≠ expected) || decide (l.index.toNat > Config.maxRecords)
  | 2 => decide (l.address.toNat > 4094)
  | 3 => match before with
    | some b => decide (l.nominalLag.toNat ≤ b)
    | none => false
  | 4 => decide (l.halfWidth.toNat > 15)
  | 5 => decide (l.nominalLag.toNat < l.driftLimit.toNat + l.halfWidth.toNat)
      || decide (l.nominalLag.toNat + l.driftLimit.toNat + l.halfWidth.toNat > length - 1)
  | 6 => !inRange l.baseline.toNat 1 32767
  | 7 => !inRange l.lowRatio.toNat 1 1023
  | 8 => !inRange l.highRatio.toNat 1025 65534
  | 9 => decide (l.presence.toNat ≠ 0) && !inRange l.presence.toNat 1 32767
  | 10 => (boolOf l.excluded).isNone
  | _ => false

/-- The first failing record and field, records in the order carried and fields in number order (R43, R44). The
record is named by the index it carries. DEDUCED: log entry 13. -/
def firstBadRecord (length : Nat) : Nat → Option Nat → List LoadRecord → Option (Byte × Byte)
  | _, _, [] => none
  | expected, before, l :: rest =>
    match ((List.range 10).map (· + 1)).find? (loadFieldFails length expected before l) with
    | some n => some (l.index, BitVec.ofNat 8 n)
    | none => firstBadRecord length (expected + 1) (some l.nominalLag.toNat) rest

/-- The nominal lag of a list's last record. -/
def lastLag (rs : List RepeaterRecord) : Option Nat := rs.getLast?.map (·.nominalLag)

/-- What a taken load with first index 1 does to the rest of the pair: no published sweep, an empty readout buffer,
sweep number 0, last learning result NONE (R46, R80, R110). The pair is PARKED or LISTEN and so NO SWEEP already, as R80
says: what takes it there takes a completion that is due first. DESIGN CHOICE: log entry 17. -/
def PairState.forgetResults (q : PairState) : PairState :=
  { q with sweep := none, published := none, readout := none, cursor := 1, sweepNumber := 0, lastLearn := .nothing }

/-- Every fault record of the pair is removed; FAULT CHANGE is set if there was one (R46, R97). -/
def State.removeFaults (s : State) (p : Pair) : State :=
  { s with faults := s.faults.filter fun r => decide (r.pair ≠ p) }.setPairFlagIf
    (s.faults.any fun r => decide (r.pair = p)) p .faultChange

/-- A taken LOAD REPEATERS: a new list from index 1, or records appended after the last (R45, R46). -/
def State.storeRecords (s : State) (p : Pair) (fromOne : Bool) (ls : List LoadRecord) : State :=
  let new := ls.map RepeaterRecord.ofLoad
  if fromOne then
    (s.removeFaults p).modPair p fun q => { q.forgetResults with records := new }
  else s.modPair p fun q => { q with records := q.records ++ new }

/-- LOAD REPEATERS (R43): the checks in order, the refusal naming record and field. -/
def ownLoadRepeaters (pair first : Byte) (ls : List LoadRecord) (s : State) : State × Answer :=
  withPair pair (fun p s =>
    let q := s.pair p
    let n := q.records.length
    if q.role.name ≠ .parked ∧ q.role.name ≠ .listen then (s, .refused .wrongState)
    else if first.toNat ≠ 1 ∧ first.toNat ≠ n + 1 then (s, .refused .badValue)
    else if ls = [] ∧ first.toNat ≠ 1 then (s, .refused .badValue)
    else
      let before := if first.toNat = 1 then none else lastLag q.records
      match firstBadRecord q.config.length first.toNat before ls with
      | some x => (s, .refused .badValue x.1 x.2)
      | none =>
        let t := s.storeRecords p (first.toNat = 1) ls
        (t, .ok (u8 (t.pair p).records.length))) s

/-! ### Exclusion -/

/-- Exclusion by the host: on a record not excluded it is set and the rest kept; on one already excluded the host
takes the exclusion over (R49). -/
def RepeaterRecord.exclude (r : RepeaterRecord) : RepeaterRecord :=
  if r.excluded then { r with excludedByMute := false } else { r with excluded := true }

/-- Exclusion cleared: the record takes its fresh state with its pending edits kept (R50). -/
def RepeaterRecord.restore (r : RepeaterRecord) : RepeaterRecord :=
  if r.excluded then { r.fresh with excluded := false, edits := r.edits } else r

/-- A mute asked by the Supervisory Unit (R51). -/
def RepeaterRecord.mute (r : RepeaterRecord) : RepeaterRecord :=
  if r.excluded then r else { r with excluded := true, excludedByMute := true }

/-- A restore asked by the Supervisory Unit acts only on a record it had muted (R51). -/
def RepeaterRecord.unmute (r : RepeaterRecord) : RepeaterRecord :=
  if r.excludedByMute then r.restore else r

/-- A mute or restore of a pair's record, at once; a restored record may let the pair sweep again (R51, R66). -/
def State.muteRecord (s : State) (p : Pair) (i : Nat) : State :=
  s.modPair p fun q => { q with records := modRecord q.records i RepeaterRecord.mute }

def State.unmuteRecord (s : State) (p : Pair) (i : Nat) : State :=
  (s.modPair p fun q => { q with records := modRecord q.records i RepeaterRecord.unmute }).considerSweep p

/-! ### EDIT REPEATER -/

/-- The changes an EDIT REPEATER carries: each value whose bit is set in the change bitmap. -/
structure EditChanges where
  low      : Option Nat
  high     : Option Nat
  presence : Option (Option Nat)
  baseline : Option Nat
  excluded : Option Byte
  deriving DecidableEq, Repr

/-- The change bitmap read with its value fields (spec/11, under R186): bit 0 low, 1 high, 2 set presence, 3 remove
presence, 4 baseline, 5 excluded. -/
def editChanges (changes : Byte) (low high presence baseline : Half) (excluded : Byte) : EditChanges where
  low := if changes.getLsbD 0 then some low.toNat else none
  high := if changes.getLsbD 1 then some high.toNat else none
  presence :=
    if changes.getLsbD 2 then some (some presence.toNat)
    else if changes.getLsbD 3 then some none else none
  baseline := if changes.getLsbD 4 then some baseline.toNat else none
  excluded := if changes.getLsbD 5 then some excluded else none

/-- Whether a change, if carried, lies outside a range. -/
def changeFails (lo hi : Nat) : Option Nat → Bool
  | some v => !inRange v lo hi
  | none => false

/-- Whether the change of field `n` is out of range (R47). -/
def EditChanges.fails (c : EditChanges) (n : Nat) : Bool :=
  match n with
  | 6 => changeFails 1 32767 c.baseline
  | 7 => changeFails 1 1023 c.low
  | 8 => changeFails 1025 65534 c.high
  | 9 => match c.presence with
    | some (some v) => !inRange v 1 32767
    | _ => false
  | 10 => match c.excluded with
    | some b => (boolOf b).isNone
    | none => false
  | _ => false

/-- A change, if carried, replaces the pending edit of the same field. -/
def newer {α : Type} (change old : Option α) : Option α :=
  match change with
  | some v => some v
  | none => old

/-- The carried edits stored as pending (R47). -/
def PendingEdits.store (e : PendingEdits) (c : EditChanges) : PendingEdits where
  low := newer c.low e.low
  high := newer c.high e.high
  presence := newer c.presence e.presence
  baseline := newer c.baseline e.baseline

/-- A taken EDIT REPEATER on its record: edits stored, an excluded setting acting at once (R47, R49, R50). -/
def RepeaterRecord.edit (r : RepeaterRecord) (c : EditChanges) : RepeaterRecord :=
  let r := { r with edits := r.edits.store c }
  match c.excluded with
  | some b => if b = 1 then r.exclude else r.restore
  | none => r

/-- EDIT REPEATER (R47). The bits of the change bitmap are examined before the numbered checks: a bit that names no
item names field 0, bits 2 and 3 together name field 9 (R185). DESIGN CHOICE of their order: log entry 12. -/
def ownEditRepeater (pair index changes : Byte) (low high presence baseline : Half) (excluded : Byte)
    (s : State) : State × Answer :=
  if changes.toNat ≥ 64 then (s, .refused .badValue)
  else if changes.getLsbD 2 && changes.getLsbD 3 then (s, .refused .badValue 0 9)
  else withPair pair (fun p s =>
    let c := editChanges changes low high presence baseline excluded
    match recordAt (s.pair p).records index.toNat with
    | none => (s, .refused .notFound)
    | some _ =>
      match [6, 7, 8, 9, 10].find? c.fails with
      | some n => (s, .refused .badValue 0 (BitVec.ofNat 8 n))
      | none =>
        let t := s.modPair p fun q => { q with records := modRecord q.records index.toNat (·.edit c) }
        let t := if c.excluded = some 0 then t.considerSweep p else t
        match recordAt (t.pair p).records index.toNat with
        | some r => (t, .ok (r.encode ++ r.edits.encode))
        | none => (t, .ok [])) s

/-- READ REPEATER (R52). -/
def ownReadRepeater (pair index : Byte) (s : State) : State × Answer :=
  withPair pair (fun p s =>
    let q := s.pair p
    match recordAt q.records index.toNat with
    | none => (s, .refused .notFound)
    | some r => (s, .ok (repeaterBlock (decide (q.learn ≠ .idle)) r))) s

/-! ### The update at sweep completion -/

/-- The pending edits applied: each pending value replaces its field, and an applied baseline clears the
learn-incomplete mark (R48). -/
def RepeaterRecord.applyEdits (r : RepeaterRecord) : RepeaterRecord :=
  { r with
    lowRatio := r.edits.low.getD r.lowRatio
    highRatio := r.edits.high.getD r.highRatio
    presence := r.edits.presence.getD r.presence
    baseline := r.edits.baseline.getD r.baseline
    learnIncomplete := r.learnIncomplete && r.edits.baseline.isNone
    edits := .empty }

/-- The ratio of a measurement to a baseline (R56). -/
def ratioOf (ap : Int) (baseline : Nat) : Nat :=
  if 0 < ap then min (ap.toNat * 1024 / baseline) 65535 else 0

/-- The measurement taken by a record of the plan: last measurement replaced, and the last valid offset when it is
VALID (R53). -/
def RepeaterRecord.receive (r : RepeaterRecord) (m : WindowMeasurement) : RepeaterRecord :=
  { r with
    last := some ⟨m.ap, m.delta, ratioOf m.ap r.baseline, m.validity⟩
    lastValidOffset := if m.validity = .valid then some m.delta else r.lastValidOffset }

/-- The lock state machine for a VALID measurement: lock state, miss count and remembered offset (R57). -/
def lockStep (lock : LockState) (miss : Nat) (remembered : Option Int) (present : Bool) (delta : Int) :
    LockState × Nat × Option Int :=
  match lock, present with
  | .search, true => (.candidate, miss, some delta)
  | .search, false => (.search, miss, remembered)
  | .candidate, true =>
    if (delta - remembered.getD 0).natAbs ≤ 1 then (.locked, miss, none) else (.candidate, miss, some delta)
  | .candidate, false => (.search, miss, none)
  | .locked, true => (.locked, miss, remembered)
  | .locked, false => (.fading, 1, remembered)
  | .fading, true => (.locked, 0, remembered)
  | .fading, false => (if miss + 1 ≥ 3 then .lost else .fading, miss + 1, remembered)
  | .lost, true => (.candidate, 0, some delta)
  | .lost, false => (.lost, miss, remembered)

/-- The sign of an offset. -/
def signOf (delta : Int) : TrackSign := if delta < 0 then .minus else .plus

/-- A centre move by δ: within nominal lag ± drift limit it is taken, beyond a limit the centre takes the limit
(R60). -/
def RepeaterRecord.moveCentre (r : RepeaterRecord) (delta : Int) : RepeaterRecord :=
  let moved := (r.centre : Int) + delta
  let lo := (r.nominalLag : Int) - r.driftLimit
  let hi := (r.nominalLag : Int) + r.driftLimit
  { r with centre := (clampInt lo hi moved).toNat, driftReached := decide (moved < lo) || decide (hi < moved) }

/-- Tracking of a LOCKED record with a present measurement, against track threshold `t` (R59). -/
def RepeaterRecord.track (r : RepeaterRecord) (t : Nat) (delta : Int) : RepeaterRecord :=
  if delta.natAbs < t then { r with trackSign := .unset }
  else if r.trackSign = signOf delta then { r.moveCentre delta with trackSign := .unset }
  else { r with trackSign := signOf delta }

/-- Whether tracking moves the centre at this sighting and the move is clamped, which sets TRACK LIMIT (R59, R60). -/
def RepeaterRecord.trackClamps (r : RepeaterRecord) (t : Nat) (delta : Int) : Bool :=
  decide (t ≤ delta.natAbs) && decide (r.trackSign = signOf delta) && (r.moveCentre delta).driftReached

/-- The outcome that a lock state and ratio give (R61). -/
def outcomeOf (lock : LockState) (ratio low high : Nat) : EchoOutcome :=
  match lock with
  | .lost => .absent
  | .locked => if ratio < low then .low else if high < ratio then .high else .normal
  | _ => .unknown

/-- The history with a known outcome at its newest end, at most 16 (R62). -/
def pushHistory (h : List EchoOutcome) (o : EchoOutcome) : List EchoOutcome :=
  match o with
  | .unknown => h
  | _ => (o :: h).take Config.maxHistory

/-- A record after stage 1, its outcome, and whether it raises OVERRANGE or TRACK LIMIT. -/
structure Judged where
  record     : RepeaterRecord
  outcome    : EchoOutcome
  overrange  : Bool
  trackLimit : Bool
  deriving DecidableEq, Repr

/-- The lock state, the kept fields that follow it, and tracking, for a record not excluded with a VALID measurement
(R55, R57 to R60); `default` and `t` are the pair's presence threshold and track threshold. -/
def RepeaterRecord.lockAndTrack (r : RepeaterRecord) (default t : Nat) (ap delta : Int) :
    RepeaterRecord × Bool :=
  let present := decide ((r.presence.getD default : Int) ≤ ap)
  let l := lockStep r.lock r.missCount r.remembered present delta
  let r := { r with lock := l.1, missCount := l.2.1, remembered := l.2.2 }
  if l.1 = .locked then
    if present then
      let r := { r with lastLockedAmp := some ap }
      (r.track t delta, r.trackClamps t delta)
    else (r, false)
  else ({ r with trackSign := .unset }, false)

/-- Steps 1 to 6 of the Repeater Table's stage for one record whose pending edits have been applied (R53 to R62). -/
def RepeaterRecord.judge (r : RepeaterRecord) (default t : Nat) (m : Option WindowMeasurement) : Judged :=
  match m with
  | none => ⟨r, .unknown, false, false⟩
  | some m =>
    let r := r.receive m
    if r.excluded then ⟨r, .unknown, false, false⟩
    else
      match m.validity with
      | .valid =>
        let x := r.lockAndTrack default t m.ap m.delta
        let o := outcomeOf x.1.lock (ratioOf m.ap r.baseline) r.lowRatio r.highRatio
        ⟨{ x.1 with history := pushHistory x.1.history o }, o, false, x.2⟩
      | .overrange => ⟨r, .unknown, true, false⟩
      | _ => ⟨r, .unknown, false, false⟩

/-- The measurement of a record in a completed sweep. -/
def measurementOf (ms : List WindowMeasurement) (i : Nat) : Option WindowMeasurement := ms.find? fun m => m.index == i

/-- Stage 1 for a pair's list: edits applied to every record, then every record judged in index order (R48, R53). -/
def judgeAll (c : PairConfig) (ms : List WindowMeasurement) (rs : List RepeaterRecord) : List Judged :=
  rs.map fun r => r.applyEdits.judge c.presence c.track (measurementOf ms r.index)

/-- LOAD_REPEATERS (R43). -/
def execLoadRepeaters (tag pair first : Byte) (records : List LoadRecord) (s : State) :
    Host.Outcome State Fault Refusal :=
  request tag (.loadRepeaters pair first records) (ownLoadRepeaters pair first records) s

/-- EDIT_REPEATER (R47). -/
def execEditRepeater (tag pair index changes : Byte) (low high presence baseline : Half) (excluded : Byte)
    (s : State) : Host.Outcome State Fault Refusal :=
  request tag (.editRepeater pair index changes low high presence baseline excluded)
    (ownEditRepeater pair index changes low high presence baseline excluded) s

/-- READ_REPEATER (R52). -/
def execReadRepeater (tag pair index : Byte) (s : State) : Host.Outcome State Fault Refusal :=
  request tag (.readRepeater pair index) (ownReadRepeater pair index) s

end Sys2Proof.Machine
end

