-- ==== Sys2Proof/Machine/Learning.lean ====
section
/-! DEFINITION. Baseline learning: its requests, its stage of a completion, and abandonment (R103 to R112). -/

namespace Sys2Proof.Machine

/-- Learn sum and count discarded or set to 0 (R63). -/
def RepeaterRecord.clearLearn (r : RepeaterRecord) : RepeaterRecord := { r with learnSum := 0, learnCount := 0 }

/-- An ACTIVE run is abandoned with a cause; an IDLE unit is left alone (R110). -/
def State.abandonLearning (s : State) (p : Pair) (cause : LearnCause) : State :=
  if (s.pair p).learn = .idle then s
  else
    (s.modPair p fun q => { q with
      records := q.records.map RepeaterRecord.clearLearn
      hold := false
      lastLearn := .abandoned cause q.sweepNumber s.now
      learn := .idle }).setPairFlag p .learnDone

/-- LEARN BASELINE (R104). -/
def ownLearnBaseline (pair target mode : Byte) (s : State) : State × Answer :=
  withPair pair (fun p s =>
    let q := s.pair p
    if q.role.name ≠ .holder ∧ q.role.name ≠ .synthetic then (s, .refused .wrongState)
    else if q.learn ≠ .idle then (s, .refused .wrongState)
    else if target.toNat ≠ 4 ∧ target.toNat ≠ 8 ∧ target.toNat ≠ 16 then (s, .refused .badValue)
    else
      match learnModeOf mode with
      | none => (s, .refused .badValue)
      | some m =>
        (s.setPair p { q with
            learn := .active m target.toNat 0 0
            records := q.records.map RepeaterRecord.clearLearn
            hold := q.hold || decide (m = .unconditional) },
          .ok (sweepBytes q.sweepNumber))) s

/-- ABORT LEARN (R105). -/
def ownAbortLearn (pair : Byte) (s : State) : State × Answer :=
  withPair pair (fun p s =>
    if (s.pair p).learn = .idle then (s, .refused .wrongState)
    else (s.abandonLearning p .host, .ok [])) s

/-- READ LEARNING (R111). -/
def ownReadLearning (pair : Byte) (s : State) : State × Answer :=
  withPair pair (fun p s => (s, .ok (learningBlock (s.pair p)))) s

/-- Whether a fault record suspends a CONDITIONAL run of its pair (R106). -/
def FaultState.suspends : FaultState → Bool
  | .suspect | .confirmed | .acting | .unresolved => true
  | .isolated | .cleared => false

/-- Whether the sweep is suspended (R106). -/
def State.learnSuspended (s : State) (p : Pair) (mode : LearnMode) : Bool :=
  match mode with
  | .conditional => s.faults.any fun r => decide (r.pair = p) && r.state.suspends
  | .unconditional => false

/-- Whether a record, as stage 1 has left it, contributes to a counted sweep (R107). -/
def RepeaterRecord.contributes (r : RepeaterRecord) (default : Nat) (m : WindowMeasurement) : Bool :=
  !r.excluded && decide (m.validity = .valid) && decide ((r.presence.getD default : Int) ≤ m.ap)
    && decide (r.lock = .locked)

/-- A record in a counted sweep (R107). -/
def RepeaterRecord.learn (r : RepeaterRecord) (default : Nat) (ms : List WindowMeasurement) : RepeaterRecord :=
  match measurementOf ms r.index with
  | some m =>
    if r.contributes default m then
      { r with learnSum := r.learnSum + m.ap.toNat, learnCount := r.learnCount + 1 }
    else r
  | none => r

/-- A record when the run finishes: a qualifying one takes the mean as its baseline and loses its history, any other
is marked learn-incomplete (R108). -/
def RepeaterRecord.finishLearn (r : RepeaterRecord) (target : Nat) : RepeaterRecord :=
  if r.learnCount = target then
    { r.clearLearn with
      baseline := max 1 (min 32767 (roundHalfUp r.learnSum target))
      history := []
      learnIncomplete := false }
  else { r.clearLearn with learnIncomplete := true }

/-- The run finishes at this stage (R108). The hold stays until the end of the completion (R109). -/
def State.finishLearning (s : State) (p : Pair) (target : Nat) (number : BitVec 48) (stamp : LineTime) : State :=
  (s.modPair p fun q =>
    let replaced := (q.records.filter fun r => decide (r.learnCount = target)).length
    { q with
      records := q.records.map (·.finishLearn target)
      lastLearn := .finished number stamp replaced (q.records.length - replaced)
      learn := .idle }).setPairFlag p .learnDone

/-- A counted sweep (R107), which may finish the run (R108). -/
def State.countSweep (s : State) (p : Pair) (ms : List WindowMeasurement) (number : BitVec 48) (stamp : LineTime)
    (mode : LearnMode) (target counted suspended : Nat) : State :=
  let s := s.modPair p fun q => { q with
    records := q.records.map (·.learn q.config.presence ms)
    learn := .active mode target (counted + 1) suspended }
  if counted + 1 = target then s.finishLearning p target number stamp else s

/-- Stage 2 of a completion (R106 to R108). -/
def State.learningStage (s : State) (p : Pair) (ms : List WindowMeasurement) (number : BitVec 48)
    (stamp : LineTime) : State :=
  match (s.pair p).learn with
  | .idle => s
  | .active mode target counted suspended =>
    if s.learnSuspended p mode then
      let s := s.modPair p fun q => { q with learn := .active mode target counted (suspended + 1) }
      if suspended + 1 = 2 * target then s.abandonLearning p .suspended else s
    else s.countSweep p ms number stamp mode target counted suspended

/-- The end of a completion at which a run finished: the hold becomes no (R109). -/
def State.releaseHold (s : State) (p : Pair) : State :=
  s.modPair p fun q => { q with hold := q.hold && decide (q.learn ≠ .idle) }

/-- LEARN_BASELINE (R104). -/
def execLearnBaseline (tag pair target mode : Byte) (s : State) : Host.Outcome State Fault Refusal :=
  request tag (.learnBaseline pair target mode) (ownLearnBaseline pair target mode) s

/-- ABORT_LEARN (R105). -/
def execAbortLearn (tag pair : Byte) (s : State) : Host.Outcome State Fault Refusal :=
  request tag (.abortLearn pair) (ownAbortLearn pair) s

/-- READ_LEARNING (R111). -/
def execReadLearning (tag pair : Byte) (s : State) : Host.Outcome State Fault Refusal :=
  request tag (.readLearning pair) (ownReadLearning pair) s

end Sys2Proof.Machine
end

