-- ==== Sys2Proof/Machine/Faults.lean ====
section
/-! DEFINITION. The Fault Localizer: segmentation, classification, the fault list, its stage of a completion and its
requests (R81 to R102). -/

namespace Sys2Proof.Machine

/-! ### Segmentation and classification -/

/-- A known outcome with its repeater index and the ratio of its measurement (R84, R86). -/
structure Known where
  index   : Nat
  outcome : EchoOutcome
  ratio   : Nat
  deriving DecidableEq, Repr

/-- LOW, HIGH and ABSENT deviate (R84). -/
def EchoOutcome.deviates : EchoOutcome → Bool
  | .low | .high | .absent => true
  | .normal | .unknown => false

/-- A maximal run of deviating known outcomes, and whether it reaches the end of the sequence (R84). -/
structure Segment where
  members     : List Known
  reachesEnd  : Bool
  deriving DecidableEq, Repr

/-- The segments of a sequence of known outcomes, given the members already met of the run in progress (R84). -/
def segmentsFrom : List Known → List Known → List Segment
  | [], [] => []
  | run, [] => [⟨run, true⟩]
  | run, k :: rest =>
    if k.outcome.deviates then segmentsFrom (run ++ [k]) rest
    else if run.isEmpty then segmentsFrom [] rest
    else ⟨run, false⟩ :: segmentsFrom [] rest

/-- The segments of a completion's outcomes: UNKNOWN ones are dropped first (R84). -/
def segments (ks : List Known) : List Segment := segmentsFrom [] (ks.filter fun k => decide (k.outcome ≠ .unknown))

/-- The class of a segment: the first row of R85 that fits. -/
def Segment.cls (g : Segment) : FaultClass :=
  let high := fun k : Known => decide (k.outcome = .high)
  let absent := fun k : Known => decide (k.outcome = .absent)
  if g.members.all high then .surge
  else if g.members.any high then .unstable
  else if g.reachesEnd then (if g.members.all absent then .break else .step)
  else if g.members.length = 1 ∧ g.members.all absent then .loopbackLoss
  else .dip

/-- The distance of a ratio from 1024. -/
def fromBaseline (r : Nat) : Nat := ((r : Int) - 1024).natAbs

/-- The better of two ratios by a rule, the first of a list on. -/
def pickRatio (better : Nat → Nat → Bool) : List Nat → Option Nat
  | [] => none
  | r :: rest => some (rest.foldl (fun best x => if better x best then x else best) r)

/-- Farther from 1024, or as far and lower (R86). -/
def farther (x y : Nat) : Bool :=
  decide (fromBaseline y < fromBaseline x) || (decide (fromBaseline x = fromBaseline y) && decide (x < y))

/-- The ratios of the members with an outcome. -/
def Segment.ratios (g : Segment) (wanted : EchoOutcome → Bool) : List Nat :=
  (g.members.filter fun k => wanted k.outcome).map (·.ratio)

/-- The candidate ratio of a segment (R86). -/
def Segment.ratio (g : Segment) : Option Nat :=
  match g.cls with
  | .dip | .step => pickRatio (fun x y => decide (x < y)) (g.ratios (· == .low))
  | .surge => pickRatio (fun x y => decide (y < x)) (g.ratios (· == .high))
  | .unstable => pickRatio farther (g.ratios fun o => o == .low || o == .high)
  | .break | .loopbackLoss => none

/-- A candidate of a completion (R85). -/
structure Candidate where
  first : Nat
  last  : Nat
  cls   : FaultClass
  ratio : Option Nat
  deriving DecidableEq, Repr

def Segment.candidate (g : Segment) : Candidate where
  first := (g.members.head?.map (·.index)).getD 0
  last := (g.members.getLast?.map (·.index)).getD 0
  cls := g.cls
  ratio := g.ratio

/-- The candidates of a completion, in order of first repeater (R83, step 1). -/
def candidates (ks : List Known) : List Candidate := (segments ks).map Segment.candidate

/-! ### The fault list -/

/-- A record whose state is anything other than CLEARED is open (R81). -/
def FaultRecord.isOpen (r : FaultRecord) : Bool := decide (r.state ≠ .cleared)

/-- The id after an id, 65535 being followed by 1 (R82). -/
def idAfter (id : Nat) : Nat := if id ≥ 65535 then 1 else id + 1

/-- The first id from `id` on that no record holds, within `fuel` tries (R82). -/
def freeId (rs : List FaultRecord) : Nat → Nat → Nat
  | 0, id => id
  | fuel + 1, id => if rs.any fun r => r.id == id then freeId rs fuel (idAfter id) else id

/-- The four ratio groups (R86). -/
inductive RatioGroup where
  | lowest | highest | farthest | nothing
  deriving DecidableEq, Repr

def FaultClass.group : FaultClass → RatioGroup
  | .dip | .step => .lowest
  | .surge => .highest
  | .unstable => .farthest
  | .break | .loopbackLoss => .nothing

/-- Two ratios of one group combined (R88). -/
def combineRatio (g : RatioGroup) (old new : Nat) : Nat :=
  match g with
  | .lowest => min old new
  | .highest => max old new
  | .farthest => if fromBaseline old < fromBaseline new then new else old
  | .nothing => old

/-- The worst ratio of a matched record (R88). -/
def worstAfter (old new : FaultClass) (worst ratio : Option Nat) : Option Nat :=
  if old.group = new.group then
    match new.group, worst, ratio with
    | .nothing, _, _ => none
    | _, w, none => w
    | _, none, some r => some r
    | g, some w, some r => some (combineRatio g w r)
  else ratio

/-- A matched record takes the candidate's class, g and worst ratio (R87, R88). -/
def FaultRecord.sight (r : FaultRecord) (c : Candidate) : FaultRecord :=
  { r with cls := c.cls, last := c.last, worst := worstAfter r.cls c.cls r.worst c.ratio }

/-- The record a candidate opens (R89). -/
def newFault (id : Nat) (p : Pair) (c : Candidate) (number : BitVec 48) (stamp : LineTime) : FaultRecord where
  id := id
  pair := p
  first := c.first
  last := c.last
  cls := c.cls
  state := .suspect
  openedTime := stamp
  openedSweep := number
  confirmed := none
  cleared := none
  worst := c.ratio
  absence := 0
  masked := false
  neverConfirmed := false
  action := none

/-- A new record joins the newest end with the next free id (R82, R89); opening sets FAULT CHANGE (R97). -/
def State.openFault (s : State) (p : Pair) (c : Candidate) (number : BitVec 48) (stamp : LineTime) : State :=
  let id := freeId s.faults (Config.maxFaults + 1) s.nextFaultId
  { s with
    faults := s.faults ++ [newFault id p c number stamp]
    nextFaultId := idAfter id }.setPairFlag p .faultChange

/-- The oldest CLEARED record leaves the list, which sets its own pair's FAULT CHANGE (R90). -/
def State.evictCleared (s : State) (r : FaultRecord) : State :=
  { s with faults := dropFirst (fun r => !r.isOpen) s.faults }.setPairFlag r.pair .faultChange

/-- A candidate that matches no open record opens one, evicting the oldest CLEARED record of a full list, or is dropped
with FAULT LIST FULL (R89 to R91). -/
def State.openOrDrop (s : State) (p : Pair) (c : Candidate) (number : BitVec 48) (stamp : LineTime) : State :=
  if s.faults.length < Config.maxFaults then s.openFault p c number stamp
  else
    match s.faults.find? fun r => !r.isOpen with
    | some r => (s.evictCleared r).openFault p c number stamp
    | none => s.setPairFlag p .faultListFull

/-- Whether a record follows a candidate of the pair (R87). -/
def FaultRecord.follows (r : FaultRecord) (p : Pair) (first : Nat) : Bool :=
  decide (r.pair = p) && decide (r.first = first) && r.isOpen

/-- Step 2 for one candidate: matched, opened or dropped (R87, R89 to R91); a change of class sets FAULT CHANGE. -/
def State.matchCandidate (p : Pair) (number : BitVec 48) (stamp : LineTime) (s : State) (c : Candidate) : State :=
  match s.faults.find? (·.follows p c.first) with
  | some r =>
    { s with faults := modFirst (·.follows p c.first) (·.sight c) s.faults }.setPairFlagIf
      (decide (r.cls ≠ c.cls)) p .faultChange
  | none => s.openOrDrop p c number stamp

/-- Whether an open BREAK record of the pair lies nearer than a repeater (R92). -/
def breakBefore (rs : List FaultRecord) (p : Pair) (first : Nat) : Bool :=
  rs.any fun r => decide (r.pair = p) && r.isOpen && decide (r.cls = .break) && decide (r.first < first)

/-- The masked mark of a record of the pair set from the open BREAK records (R92). -/
def FaultRecord.mask (rs : List FaultRecord) (p : Pair) (r : FaultRecord) : FaultRecord :=
  if r.pair = p ∧ r.isOpen then { r with masked := breakBefore rs p r.first } else r

/-- Steps 3 and 5: the masked marks of the pair's open records; a change sets FAULT CHANGE (R83, R92). -/
def State.maskFaults (s : State) (p : Pair) : State :=
  let new := s.faults.map (FaultRecord.mask s.faults p)
  { s with faults := new }.setPairFlagIf
    (s.faults.any fun r => decide ((FaultRecord.mask s.faults p r).masked ≠ r.masked)) p .faultChange

/-- The confirmation test: at least M deviating outcomes among the newest N of a history (R94). -/
def confirms (m n : Nat) (history : List EchoOutcome) : Bool :=
  decide (m ≤ ((history.take n).filter EchoOutcome.deviates).length)

/-- The result in an action part replaced. -/
def ActionPart.withResult (a : ActionPart) (r : ActionResult) : ActionPart := { a with result := r }

/-- A sighted unmasked open record is judged (R94, R96). -/
def FaultRecord.judgeSighted (r : FaultRecord) (c : PairConfig) (history : List EchoOutcome) (stamp : LineTime) :
    FaultRecord :=
  let r := { r with absence := 0 }
  match r.state with
  | .suspect =>
    if confirms c.confirmM c.confirmN history then { r with state := .confirmed, confirmed := some stamp } else r
  | .isolated => { r with state := .unresolved, action := r.action.map (·.withResult .relapsed) }
  | _ => r

/-- An unmasked open record that was not sighted is judged (R95). -/
def FaultRecord.judgeUnsighted (r : FaultRecord) (c : PairConfig) (stamp : LineTime) : FaultRecord :=
  match r.state with
  | .suspect | .confirmed | .unresolved =>
    if c.clearCount ≤ r.absence + 1 then
      { r with
        absence := r.absence + 1
        state := .cleared
        cleared := some stamp
        masked := false
        neverConfirmed := r.neverConfirmed || decide (r.state = .suspect) }
    else { r with absence := r.absence + 1 }
  | _ => r

/-- Step 4 for one record: only the pair's unmasked open records are judged (R83, R93). A record is sighted when a
candidate of the completion has its first repeater. -/
def FaultRecord.judge (q : PairState) (p : Pair) (cs : List Candidate) (stamp : LineTime) (r : FaultRecord) :
    FaultRecord :=
  if r.pair = p ∧ r.isOpen ∧ ¬r.masked then
    if cs.any fun c => c.first == r.first then
      r.judgeSighted q.config (((recordAt q.records r.first).map (·.history)).getD []) stamp
    else r.judgeUnsighted q.config stamp
  else r

/-- Step 4: the judgement of the pair's records; a change of state sets FAULT CHANGE (R83, R97). -/
def State.judgeFaults (s : State) (p : Pair) (cs : List Candidate) (stamp : LineTime) : State :=
  let judge := FaultRecord.judge (s.pair p) p cs stamp
  { s with faults := s.faults.map judge }.setPairFlagIf
    (s.faults.any fun r => decide ((judge r).state ≠ r.state)) p .faultChange

/-- Step 6: the ids of the records that became CONFIRMED in step 4, in list order (R83). -/
def State.newlyConfirmed (s : State) (p : Pair) (cs : List Candidate) (stamp : LineTime) : List Nat :=
  (s.faults.filter fun r =>
    decide (r.state ≠ .confirmed) && decide ((FaultRecord.judge (s.pair p) p cs stamp r).state = .confirmed)).map
    (·.id)

/-- Stage 3 of a completion, and the records it names for stage 4 (R83). -/
def State.localize (s : State) (p : Pair) (ks : List Known) (number : BitVec 48) (stamp : LineTime) :
    State × List Nat :=
  let cs := candidates ks
  let s := (cs.foldl (State.matchCandidate p number stamp) s).maskFaults p
  ((s.judgeFaults p cs stamp).maskFaults p, s.newlyConfirmed p cs stamp)

/-! ### Requests -/

/-- Whether a pair selector, 0..4 with 0 for every pair, selects a record (R98, R101). -/
def selects (selector : Byte) (r : FaultRecord) : Bool :=
  selector.toNat == 0 || selector.toNat == pairNumber r.pair

/-- LIST FAULTS (R98). -/
def ownListFaults (selector : Byte) (fromId : Half) (s : State) : State × Answer :=
  if selector.toNat > 4 then (s, .refused .badValue)
  else if fromId.toNat ≠ 0 ∧ (s.faultAt fromId.toNat).isNone then (s, .refused .notFound)
  else
    let rest := if fromId.toNat = 0 then s.faults else s.faults.dropWhile fun r => r.id != fromId.toNat
    let chosen := rest.filter (selects selector)
    let page := chosen.take Config.pageFaults
    let next := ((chosen.drop Config.pageFaults).head?.map (·.id)).getD 0
    (s, .ok (u8 s.faults.length ++ u8 page.length ++ u16 next ++ page.flatMap FaultRecord.summary))

/-- READ FAULT (R99). -/
def ownReadFault (id : Half) (s : State) : State × Answer :=
  if id.toNat = 0 then (s, .refused .notFound)
  else
    match s.faultAt id.toNat with
    | some r => (s, .ok r.encode)
    | none => (s, .refused .notFound)

/-- PURGE FAULT of one record (R100). -/
def purgeOne (id : Half) (s : State) : State × Answer :=
  if id.toNat = 0 then (s, .refused .notFound)
  else
    match s.faultAt id.toNat with
    | none => (s, .refused .notFound)
    | some r =>
      if r.state ≠ .cleared then (s, .refused .wrongState)
      else ({ s with faults := dropFirst (fun r => r.id == id.toNat) s.faults }, .ok [1])

/-- PURGE FAULT with ALL CLEARED (R101). -/
def purgeCleared (selector : Byte) (s : State) : State × Answer :=
  if selector.toNat > 4 then (s, .refused .badValue)
  else
    let kept := s.faults.filter fun r => r.isOpen || !selects selector r
    ({ s with faults := kept }, .ok (u8 (s.faults.length - kept.length)))

/-- PURGE FAULT: the option is examined first; the other field is ignored (R185, spec/11 under R186). -/
def ownPurgeFault (option : Byte) (id : Half) (selector : Byte) (s : State) : State × Answer :=
  match option.toNat with
  | 0 => purgeOne id s
  | 1 => purgeCleared selector s
  | _ => (s, .refused .badValue)

/-- LIST_FAULTS (R98). -/
def execListFaults (tag selector : Byte) (fromId : Half) (s : State) : Host.Outcome State Fault Refusal :=
  request tag (.listFaults selector fromId) (ownListFaults selector fromId) s

/-- READ_FAULT (R99). -/
def execReadFault (tag : Byte) (id : Half) (s : State) : Host.Outcome State Fault Refusal :=
  request tag (.readFault id) (ownReadFault id) s

/-- PURGE_FAULT, option single (R100). -/
def execPurgeFault (tag : Byte) (id : Half) (s : State) : Host.Outcome State Fault Refusal :=
  request tag (.purgeFault 0 id 0) (ownPurgeFault 0 id 0) s

/-- PURGE_FAULT_ALL_CLEARED (R101). -/
def execPurgeFaultAllCleared (tag selector : Byte) (s : State) : Host.Outcome State Fault Refusal :=
  request tag (.purgeFault 1 0 selector) (ownPurgeFault 1 0 selector) s

end Sys2Proof.Machine
end

