-- ==== Sys2Proof/Machine/Supervisory.lean ====
section
/-! DEFINITION. The supervisory queue: enqueueing, the start of an exchange and its captured values, SUPERVISE and
READ QUEUE (R113 to R119, R132). -/

namespace Sys2Proof.Machine

/-- The bit threshold of a record: half its last locked amplitude, or half its baseline when that is absent, and at
least 1 (R118). -/
def RepeaterRecord.bitThreshold (r : RepeaterRecord) : Nat :=
  max 1 (((r.lastLockedAmp.getD r.baseline).toNat) / 2)

/-- The reply lag of a record: its centre lag and its last valid offset (R118). -/
def RepeaterRecord.replyLag (r : RepeaterRecord) : Nat := ((r.centre : Int) + r.lastValidOffset.getD 0).toNat

/-- What an entry captures from its record (R118). -/
def RepeaterRecord.capture (r : RepeaterRecord) : CapturedTarget := ⟨r.centre, r.replyLag, r.bitThreshold⟩

/-- The captured values of an entry at its start; a broadcast captures the address 4095 and no target (R118). An index
that no record has, which no reachable entry names, captures zeros: log entry 20. -/
def PairState.capture (q : PairState) (index : Nat) : Captured where
  address := if index = 0 then 4095 else ((recordAt q.records index).map (·.address)).getD 0
  target :=
    if index = 0 then none
    else some (((recordAt q.records index).map RepeaterRecord.capture).getD ⟨0, 0, 1⟩)
  chipCode := q.config.chipCode
  symbolTime := q.config.symbolTime
  turnaround := q.config.turnaround
  replyBit := q.config.replyBit
  checkMode := q.config.checkMode

/-- Whether an entry may start: WAITING, its pair HOLDER with return loss NOT DECLARED (R117). -/
def State.eligible (s : State) (e : QueueEntry) : Bool :=
  e.isWaiting && decide ((s.pair e.pair).role.name = .holder) && !(s.pair e.pair).det.lossDeclared

/-- An entry goes IN FLIGHT with its captured values, one attempt made (R117, R118). -/
def QueueEntry.start (e : QueueEntry) (c : Captured) : QueueEntry :=
  { e with state := .inFlight c .toneWait, attempts := 1 }

/-- When no exchange is in flight the oldest eligible WAITING entry starts and asks for its pair's tone field
(R117, R119). -/
def State.startNext (s : State) : State :=
  if s.flight.isSome then s
  else
    match s.queue.find? s.eligible with
    | some e =>
      { s with queue := modFirst s.eligible (fun e => e.start ((s.pair e.pair).capture e.index)) s.queue }.askTone e.pair
    | none => s

/-- A new WAITING entry of a pair (R114, R115). -/
def newEntry (origin : Origin) (p : Pair) (retries index : Nat) (c : Command) (argument : Nat) : QueueEntry where
  state := .waiting
  origin := origin
  pair := p
  index := index
  command := c
  argument := argument
  retries := retries
  attempts := 0

/-- Whether the queue has room (R113). -/
def State.queueRoom (s : State) : Bool := decide (s.queue.length < Config.maxEntries)

/-- An entry joins the newest end of the queue with the pair's configured retries (R114, R115). -/
def State.enqueue (s : State) (origin : Origin) (p : Pair) (index : Nat) (c : Command) (argument : Nat) : State :=
  { s with queue := s.queue ++ [newEntry origin p (s.pair p).config.retries index c argument] }

/-- SUPERVISE (R114). -/
def ownSupervise (tag pair index command argument : Byte) (s : State) : State × Answer :=
  withPair pair (fun p s =>
    let q := s.pair p
    if q.role.name ≠ .holder then (s, .refused .wrongState)
    else if q.records.length < index.toNat then (s, .refused .notFound)
    else
      match commandOf command argument with
      | none => (s, .refused .badValue)
      | some (c, a) =>
        if c = .query ∧ index.toNat = 0 then (s, .refused .badValue)
        else if s.queueRoom then
          ((s.enqueue (.host tag) p index.toNat c a).startNext, .accepted (u8 (s.queue.length + 1)))
        else (s, .refused .queueFull)) s

/-- READ QUEUE (R132). -/
def ownReadQueue (s : State) : State × Answer :=
  (s, .ok (u8 s.queue.length ++ encodeQueue s.time 1 s.queue))

/-- SUPERVISE (R114). -/
def execSupervise (tag pair index command argument : Byte) (s : State) : Host.Outcome State Fault Refusal :=
  request tag (.supervise pair index command argument) (ownSupervise tag pair index command argument) s

/-- READ_QUEUE (R132). -/
def execReadQueue (tag : Byte) (s : State) : Host.Outcome State Fault Refusal :=
  request tag .readQueue ownReadQueue s

end Sys2Proof.Machine
end

