-- ==== Sys2Proof/Machine/Isolation.lean ====
section
/-! DEFINITION. The Isolation Controller: how sequences start, run, verify and end (R135 to R151). -/

namespace Sys2Proof.Machine

/-! ### Steps of a sequence -/

/-- A record's action part changed. -/
def FaultRecord.modAction (r : FaultRecord) (f : ActionPart → ActionPart) : FaultRecord :=
  { r with action := r.action.map f }

/-- The step that an enqueued command stands for. -/
def CommandStep.step : CommandStep → Step
  | .querying => .querying
  | .commanding => .commanding

/-- A step's command is asked of the Supervisory Unit: taken, the step stands; the queue full, the step is WAITING FOR
QUEUE with that command (R115, R141). -/
def State.enqueueStep (s : State) (r : FaultRecord) (c : Command) (argument : Nat) (standsFor : CommandStep) :
    State :=
  if s.queueRoom then
    (s.enqueue (.fault r.id) r.pair r.first c argument).modFault r.id
      (·.modAction fun a => { a with step := standsFor.step })
  else s.modFault r.id (·.modAction fun a => { a with step := .waitingForQueue c argument standsFor })

/-- A sequence ends: the result, step DONE and the record's new state, which sets FAULT CHANGE (R135, R97). -/
def State.endSequence (s : State) (r : FaultRecord) (result : ActionResult) (state : FaultState) : State :=
  (s.modFault r.id fun x =>
    { x.modAction (fun a => { a with step := .done, result := result }) with state := state }).setPairFlag
    r.pair .faultChange

/-- The first command of an action and the step it stands for (R140). -/
def firstCommand : Action → Command × Nat × CommandStep
  | .hold => (.gainHold, 1, .commanding)
  | .release => (.release, 0, .commanding)
  | _ => (.query, 0, .querying)

/-- The record becomes ACTING with a fresh action part; the status word is as given (R140, R148). -/
def State.becomeActing (s : State) (r : FaultRecord) (action : Action) (origin : ActionOrigin)
    (statusWord : Option Half) : State :=
  (s.modFault r.id fun x =>
    { x with
      state := .acting
      action := some
        { action := action, origin := origin, step := (firstCommand action).2.2.step, statusWord := statusWord,
          verified := 0, result := .pending } }).setPairFlag r.pair .faultChange

/-- A sequence starts and its first command is enqueued (R140). -/
def State.startSequence (s : State) (r : FaultRecord) (action : Action) (origin : ActionOrigin)
    (statusWord : Option Half) : State :=
  let c := firstCommand action
  (s.becomeActing r action origin statusWord).enqueueStep r c.1 c.2.1 c.2.2

/-- The two bytes of a QUERY reply as the status word, first byte as bits 15..8 (R142). -/
def statusOf : List Byte → Half
  | [hi, lo] => half hi lo
  | _ => 0

/-- The status word of a QUERY stored (R142, R143). -/
def State.storeStatus (s : State) (r : FaultRecord) (w : Half) : State :=
  s.modFault r.id (·.modAction fun a => { a with statusWord := some w })

/-- The pump choice: with the pumps shared and exactly one of them sound, the argument of PUMP SELECT (R143, R193). -/
def pumpChoice (w : Half) : Option Nat :=
  if w.getLsbD 15 || w.getLsbD 14 then none
  else
    match w.getLsbD 13, w.getLsbD 12 with
    | true, false => some 1
    | false, true => some 2
    | _, _ => none

/-- A QUERY of a step QUERYING ended DONE (R142, R143). -/
def State.queryDone (s : State) (r : FaultRecord) (a : ActionPart) (reply : List Byte) : State :=
  let w := statusOf reply
  let s := s.storeStatus r w
  match a.action with
  | .pumpRecovery =>
    match pumpChoice w with
    | some n => s.enqueueStep r .pumpSelect n .commanding
    | none => s.endSequence r .noPumpChoice .unresolved
  | _ => s.endSequence r .queried .confirmed

/-- Entering VERIFYING: the pass-over mark is yes while the pair is PASS READY or PASS IN BANK (R145). -/
def State.enterVerifying (s : State) (r : FaultRecord) : State :=
  let mark := (s.pair r.pair).sweep.isSome
  s.modFault r.id (·.modAction fun a => { a with step := .verifying mark, verified := 0 })

/-- A command of a step COMMANDING ended DONE (R143, R144, R148). -/
def State.commandDone (s : State) (r : FaultRecord) (a : ActionPart) : State :=
  match a.action with
  | .release => s.endSequence r .released .confirmed
  | _ => s.enterVerifying r

/-- The result of a fault-origin entry reaches its record (R128, R142 to R148). A result for an id that no record holds
is discarded (R151). -/
def State.deliver (s : State) (id : Nat) (result : ExchangeResult) (reply : List Byte) : State :=
  match s.faultAt id with
  | none => s
  | some r =>
    match r.state, r.action with
    | .acting, some a =>
      match a.step, result with
      | .querying, .done => s.queryDone r a reply
      | .commanding, .done => s.commandDone r a
      | .querying, x => s.endSequence r (.exchange x) .unresolved
      | .commanding, x => s.endSequence r (.exchange x) .unresolved
      | _, _ => s
    | _, _ => s

/-! ### Role loss -/

/-- The id of a fault-origin entry. -/
def QueueEntry.faultId (e : QueueEntry) : Option Nat :=
  match e.origin with
  | .fault id => some id
  | .host _ => none

/-- Whether an entry is WAITING for the pair. -/
def QueueEntry.waitsFor (e : QueueEntry) (p : Pair) : Bool := e.isWaiting && decide (e.pair = p)

/-- What role loss makes of an entry: a WAITING one of the pair ends with ROLE LOST, a host-origin one staying in the
queue until its notice has been sent and a fault-origin one leaving it (R128, R131). -/
def QueueEntry.loseRole (p : Pair) (e : QueueEntry) : Option QueueEntry :=
  if e.waitsFor p then
    match e.origin with
    | .host _ => some { e with state := .done .roleLost [] false }
    | .fault _ => none
  else some e

/-- Every WAITING entry of the pair is removed with result ROLE LOST (R131). -/
def State.removeWaiting (s : State) (p : Pair) : State :=
  ((s.queue.filter (·.waitsFor p)).filterMap QueueEntry.faultId).foldl
    (fun s id => s.deliver id .roleLost []) { s with queue := s.queue.filterMap (QueueEntry.loseRole p) }

/-- Whether a record of the pair is ACTING in the step WAITING FOR QUEUE. -/
def FaultRecord.waitsForQueue (r : FaultRecord) (p : Pair) : Bool :=
  decide (r.pair = p) && decide (r.state = .acting) &&
    match r.action with
    | some a => match a.step with
      | .waitingForQueue .. => true
      | _ => false
    | none => false

/-- A step WAITING FOR QUEUE ends at once with ROLE LOST (R149). -/
def State.endWaitingSteps (s : State) (p : Pair) : State :=
  (s.faults.filter (·.waitsForQueue p)).foldl (fun s r => s.endSequence r (.exchange .roleLost) .unresolved) s

/-- A pair leaves HOLDER and YIELDING, or leaves LOCAL, for LISTEN or PARKED: its waiting steps end and its WAITING
entries are removed (R131, R149). -/
def State.loseRole (s : State) (p : Pair) : State := (s.endWaitingSteps p).removeWaiting p

/-! ### Stage 4 of a completion -/

/-- The outcome of a repeater at a completion. -/
def outcomeAt (ks : List Known) (i : Nat) : EchoOutcome := ((ks.find? fun k => k.index == i).map (·.outcome)).getD .unknown

/-- One more NORMAL outcome counted; the count stays within 0..8 (R135, R146). DESIGN CHOICE for a count that has passed
a verify count lowered since: log entry 28. -/
def ActionPart.countVerified (a : ActionPart) : Nat := min Config.maxVerified (a.verified + 1)

/-- A VERIFYING record is judged on the outcome of its repeater f (R146). -/
def State.verify (s : State) (r : FaultRecord) (a : ActionPart) (passOver : Bool) (o : EchoOutcome) : State :=
  if passOver then s.modFault r.id (·.modAction fun a => { a with step := .verifying false })
  else
    match o with
    | .unknown => s
    | .normal =>
      let s := s.modFault r.id (·.modAction fun a => { a with verified := a.countVerified })
      if a.countVerified = (s.pair r.pair).config.verifyCount then s.endSequence r .isolated .isolated else s
    | _ => s.endSequence r .notRecovered .unresolved

/-- The first pass of stage 4 for one record (R137, R146). -/
def State.verifyPass (ks : List Known) (s : State) (r : FaultRecord) : State :=
  match r.state, r.action with
  | .acting, some a =>
    match a.step with
    | .verifying m => s.verify r a m (outcomeAt ks r.first)
    | _ => s
  | _, _ => s

/-- The second pass for one record: a step WAITING FOR QUEUE asks again (R137, R141). -/
def State.waitingPass (s : State) (r : FaultRecord) : State :=
  match r.state, r.action with
  | .acting, some a =>
    match a.step with
    | .waitingForQueue c n f => s.enqueueStep r c n f
    | _ => s
  | _, _ => s

/-- The third pass for one named record: an automatic start when auto-isolation is ON and the policy of its class names
an action (R137, R138). -/
def State.autoStart (s : State) (id : Nat) : State :=
  match s.faultAt id with
  | none => s
  | some r =>
    let c := (s.pair r.pair).config
    if c.autoIsolation && decide (c.policy r.cls ≠ .nothing) then s.startSequence r (c.policy r.cls) .auto none
    else s

/-- The pair's records. -/
def State.faultsOf (s : State) (p : Pair) : List FaultRecord := s.faults.filter fun r => decide (r.pair = p)

/-- Stage 4 of a completion: verification, waiting steps, automatic starts, each over the list as the pass finds it
(R137). An entry that joined the queue may start (R117). -/
def State.isolationStage (s : State) (p : Pair) (ks : List Known) (named : List Nat) : State :=
  let s := (s.faultsOf p).foldl (State.verifyPass ks) s
  let s := (s.faultsOf p).foldl State.waitingPass s
  (named.foldl State.autoStart s).startNext

/-! ### Requests -/

/-- The action an ISOLATE may carry (R139). -/
def isolateAction (b : Byte) : Option Action :=
  match b.toNat with
  | 1 => some .query
  | 2 => some .pumpRecovery
  | 3 => some .hold
  | _ => none

/-- The fault id and new step of an ACCEPTED reply (R139, R148). -/
def acceptedStep (s : State) (id : Half) : Answer :=
  match (s.faultAt id.toNat).bind (·.action) with
  | some a => .accepted (be16 id ++ [a.step.code])
  | none => .accepted (be16 id ++ [0])

/-- A sequence asked for by the host: started, answered with the step it is in, and the queue's next start decided
(R139, R148, R117). -/
def State.hostSequence (s : State) (id : Half) (r : FaultRecord) (action : Action) (statusWord : Option Half) :
    State × Answer :=
  let t := s.startSequence r action .host statusWord
  (t.startNext, acceptedStep t id)

/-- ISOLATE (R139). -/
def ownIsolate (id : Half) (action : Byte) (s : State) : State × Answer :=
  if id.toNat = 0 then (s, .refused .notFound)
  else
    match s.faultAt id.toNat with
    | none => (s, .refused .notFound)
    | some r =>
      if r.state ≠ .confirmed ∧ r.state ≠ .unresolved then (s, .refused .wrongState)
      else if (s.pair r.pair).role.name ≠ .holder then (s, .refused .wrongState)
      else
        match isolateAction action with
        | none => (s, .refused .badValue)
        | some a => if actionAllowed r.cls a then s.hostSequence id r a none else (s, .refused .badValue)

/-- RELEASE ISOLATION (R148): the status word is kept. -/
def ownReleaseIsolation (id : Half) (s : State) : State × Answer :=
  if id.toNat = 0 then (s, .refused .notFound)
  else
    match s.faultAt id.toNat with
    | none => (s, .refused .notFound)
    | some r =>
      if r.state ≠ .isolated ∧ r.state ≠ .unresolved then (s, .refused .wrongState)
      else if (s.pair r.pair).role.name ≠ .holder then (s, .refused .wrongState)
      else s.hostSequence id r .release (r.action.bind (·.statusWord))

/-- ISOLATE (R139). -/
def execIsolate (tag : Byte) (id : Half) (action : Byte) (s : State) : Host.Outcome State Fault Refusal :=
  request tag (.isolate id action) (ownIsolate id action) s

/-- RELEASE_ISOLATION (R148). -/
def execReleaseIsolation (tag : Byte) (id : Half) (s : State) : Host.Outcome State Fault Refusal :=
  request tag (.releaseIsolation id) (ownReleaseIsolation id) s

end Sys2Proof.Machine
end

