-- ==== Sys2Proof/Machine/Guard.lean ====
section
/-! DEFINITION. The quiet guard of a yield: its two items, the reports that clear them, and the end of the yield (R161,
R162). -/

namespace Sys2Proof.Machine

/-- The end of a yield: LISTEN with cause ROLE YIELDED, the drive silent, the waiting steps and entries ended
(R162). -/
def State.finishYield (s : State) (p : Pair) : State :=
  ((s.setRole p .listen .roleYielded).modPair p PairState.silence).loseRole p

/-- The items of the quiet guard as they stand; when both are no the yield ends (R161, R162). -/
def State.setGuard (s : State) (p : Pair) (mode : YieldMode) (pass exchange : Bool) : State :=
  if pass || exchange then s.modPair p fun q => { q with role := .yielding mode pass exchange }
  else s.finishYield p

/-- Sweep Control reports that the pair has left PASS IN BANK (R65, R162). -/
def State.reportLeftBank (s : State) (p : Pair) : State :=
  match (s.pair p).role with
  | .yielding m true x => s.setGuard p m false x
  | _ => s

/-- The Supervisory Unit reports the end of the pair's exchange (R128, R162). -/
def State.reportExchangeEnd (s : State) (p : Pair) : State :=
  match (s.pair p).role with
  | .yielding m b true => s.setGuard p m b false
  | _ => s

end Sys2Proof.Machine
end

