-- ==== Sys2Proof/Machine/Completion.lean ====
section
/-! DEFINITION. Sweep completions: their five stages, and what follows them (R74 to R76, R65, R66). -/

namespace Sys2Proof.Machine

/-! ### Stage 1 -/

/-- The records judged, and OVERRANGE and TRACK LIMIT set (R53, R54, R60). -/
def State.tableStage (s : State) (p : Pair) (js : List Judged) : State :=
  ((s.modPair p fun q => { q with records := js.map (·.record) }).setPairFlagIf (js.any (·.overrange)) p
    .overrange).setPairFlagIf (js.any (·.trackLimit)) p .trackLimit

/-- A record's outcome as the Fault Localizer takes it, with the ratio of its measurement (R84, R86). -/
def Judged.known (j : Judged) : Known where
  index := j.record.index
  outcome := j.outcome
  ratio := (j.record.last.map (·.ratio)).getD 0

/-! ### Stage 5 -/

/-- The window of a record in a plan (R68). -/
def Sweep.windowOf (w : Sweep) (i : Nat) : Option Window := w.passes.flatten.find? fun x => x.index == i

/-- The result that is published for a record: `before` is the record as the completion found it, `j` what stage 1 made
of it (R76). -/
def resultOf (w : Sweep) (before : RepeaterRecord) (j : Judged) : SweepResult where
  index := before.index
  inPlan := (w.windowOf before.index).isSome
  centreUsed := ((w.windowOf before.index).map (·.centre)).getD before.centre
  centreAfter := j.record.centre
  halfWidth := before.halfWidth
  measured := if (w.windowOf before.index).isSome then j.record.last else none
  outcome := j.outcome
  lock := j.record.lock
  driftReached := j.record.driftReached
  bins := ((measurementOf w.held before.index).map (·.bins)).getD []

/-- The sweep that a completion publishes (R75, R76). -/
def publishedOf (w : Sweep) (number : BitVec 48) (stamp : LineTime) (before : List RepeaterRecord)
    (js : List Judged) : PublishedSweep where
  number := number
  time := stamp
  passCount := w.passes.length
  results := before.zipWith (resultOf w) js

/-- Stage 5: the published sweep replaced, the sweep number advanced, SWEEP PUBLISHED set (R75, R76). -/
def State.publish (s : State) (p : Pair) (b : PublishedSweep) : State :=
  (s.modPair p fun q => { q with published := some b, sweepNumber := b.number }).setPairFlag p .sweepPublished

/-! ### The completion -/

/-- Stages 3 and 4: localization unless evaluation is held, then isolation with the records it named (R74, R83,
R109, R137). -/
def State.judgeStages (s : State) (p : Pair) (ks : List Known) (number : BitVec 48) (stamp : LineTime) : State :=
  if (s.pair p).hold then s.isolationStage p ks []
  else
    let x := s.localize p ks number stamp
    x.1.isolationStage p ks x.2

/-- The five stages in order (R74). -/
def State.stages (s : State) (p : Pair) (w : Sweep) (stamp : LineTime) : State :=
  let q := s.pair p
  let number := q.sweepNumber + 1
  let js := judgeAll q.config w.held q.records
  let s := ((s.tableStage p js).learningStage p w.held number stamp).judgeStages p (js.map Judged.known) number stamp
  (s.publish p (publishedOf w number stamp q.records js)).releaseHold p

/-- After the stages the pair is NO SWEEP, which a waiting yield is told (R65, R70, R162). -/
def State.leaveBank (s : State) (p : Pair) : State := (s.modPair p fun q => { q with sweep := none }).reportLeftBank p

/-- The completion of a sweep whose last pass has delivered, up to NO SWEEP (R65, R74). -/
def State.finishSweep (s : State) (p : Pair) : State :=
  match (s.pair p).sweep with
  | some w =>
    match w.stage with
    | .completing stamp => (s.stages p w stamp).leaveBank p
    | _ => s
  | none => s

/-- The completion that is due, after which the pair is planned again if it may sweep, and the arbiter decides (R66,
R70, R74). -/
def State.completeSweep (s : State) (p : Pair) : State :=
  if (s.pair p).completionDue then (s.finishSweep p).replan p else s

/-- An event that abandons the sweep of a pair whose last pass has delivered finds the completion taken in full and the
pair NO SWEEP; it is planned again only where it may still sweep after the event (R73, R74). What an IDLE transmitter
then begins belongs to the completion (R172). DESIGN CHOICE of this moment: log entry 17. -/
def State.takeCompletion (s : State) (p : Pair) : State :=
  if (s.pair p).completionDue then (s.finishSweep p).transmit else s

/-- SWEEP_COMPLETION (R74). -/
def execSweepCompletion (p : Pair) (s : State) : Host.Outcome State Fault Refusal := live s (·.completeSweep p)

end Sys2Proof.Machine
end

