-- ==== Sys2Proof/Machine/Roles.lean ====
section
/-! DEFINITION. The Line Role Controller: claims, holding, yields, collisions and READ ROLE (R152 to R166). -/

namespace Sys2Proof.Machine

/-! ### Yielding -/

/-- What Sweep Control does when the pair enters YIELDING (R71, R72). -/
def State.yieldSweep (s : State) (p : Pair) (mode : YieldMode) : State :=
  match mode with
  | .prompt => s.abandonSweep p
  | .graceful => s.abandonUnlessRunning p

/-- A pair enters YIELDING: the neighbours act, the guard is set from what they have left, and the arbiter decides
on a bank that an abort has freed (R161, R69). -/
def State.enterYielding (s : State) (p : Pair) (mode : YieldMode) (cause : RoleCause) : State :=
  let s := ((s.setRole p (.yielding mode false false) cause).yieldSweep p mode).abandonLearning p .role
  (s.setGuard p mode (s.pair p).passInBank (s.inFlightOn p)).arbitrate

/-! ### Claiming -/

/-- A pair enters CLAIMING: its burst starts, the claim timer is 0 and the quiet timer BURST (R154). -/
def State.enterClaiming (s : State) (p : Pair) : State :=
  (s.setRole p (.claiming 0 .burst) .host).modPair p fun q => { q with tone := ⟨.claimBurst 0, []⟩ }

/-- A claim ends in LISTEN: its timers end and a burst still running stops (R157, R158, R160). -/
def State.endClaim (s : State) (p : Pair) (cause : RoleCause) : State :=
  (s.setRole p .listen cause).modPair p PairState.silence

/-- The quiet timer at the end of the claim burst (R154). -/
def PairState.quietAfterBurst (q : PairState) : QuietTimer := if q.det.farPresent then .held else .counting 0

/-! ### Reports of the Return Interface (R155, R163, R164) -/

/-- The quiet timer's reaction to a far claim tone at an END A part (R155). -/
def QuietTimer.onFarClaim : QuietTimer → QuietTimer
  | .counting _ => .counting 0
  | t => t

/-- FAR CLAIM TONE, by role state (R155, R158, R159, R164). -/
def State.farClaim (s : State) (p : Pair) : State :=
  match (s.pair p).role with
  | .claiming t quiet =>
    match s.endSetting with
    | .endB => s.endClaim p .roleContended
    | .endA => s.modPair p fun q => { q with role := .claiming t quiet.onFarClaim }
  | .holder _ =>
    match (s.pair p).config.yieldPolicy with
    | .keep => s.orderKeep p
    | .yield => s.enterYielding p (s.pair p).config.yieldMode .farClaim
  | _ => s

/-- FAR KEEP TONE, by role state (R157, R164). -/
def State.farKeep (s : State) (p : Pair) : State :=
  match (s.pair p).role with
  | .claiming .. => s.endClaim p .roleRefused
  | _ => s

/-- FAR ACTIVITY BEGINS, by role state (R155, R163). -/
def Role.farBegins : Role → Role
  | .claiming t (.counting _) => .claiming t .held
  | .holder _ => .holder (.counting 0)
  | r => r

/-- FAR ACTIVITY ENDS, by role state (R155, R163). -/
def Role.farEnds : Role → Role
  | .claiming t .held => .claiming t (.counting 0)
  | .holder _ => .holder .idle
  | r => r

/-! ### Requests -/

/-- TAKE ROLE (R153). -/
def ownTakeRole (pair : Byte) (s : State) : State × Answer :=
  withPair pair (fun p s =>
    match (s.pair p).role with
    | .listen => (s.enterClaiming p, .ok [])
    | .claiming .. | .holder _ => (s, .ok [])
    | .parked | .yielding .. | .synthetic => (s, .refused .wrongState)) s

/-- RELEASE ROLE (R160). A yield finds a completion that is due taken in full (R73): log entry 17. -/
def ownReleaseRole (pair mode : Byte) (s : State) : State × Answer :=
  withPair pair (fun p s =>
    match yieldModeOf mode with
    | none => (s, .refused .badValue)
    | some m =>
      match (s.pair p).role with
      | .holder _ => ((s.takeCompletion p).enterYielding p m .host, .ok [])
      | .claiming .. => (s.endClaim p .host, .ok [])
      | .listen => (s, .ok [])
      | .parked | .yielding .. | .synthetic => (s, .refused .wrongState)) s

/-- READ ROLE (R165). -/
def ownReadRole (pair : Byte) (s : State) : State × Answer :=
  withPair pair (fun p s => (s, .ok (roleBlock s.endSetting (s.pair p)))) s

/-- TAKE_ROLE (R153). -/
def execTakeRole (tag pair : Byte) (s : State) : Host.Outcome State Fault Refusal :=
  request tag (.takeRole pair) (ownTakeRole pair) s

/-- RELEASE_ROLE (R160). -/
def execReleaseRole (tag pair mode : Byte) (s : State) : Host.Outcome State Fault Refusal :=
  request tag (.releaseRole pair mode) (ownReleaseRole pair mode) s

/-- READ_ROLE (R165). -/
def execReadRole (tag pair : Byte) (s : State) : Host.Outcome State Fault Refusal :=
  request tag (.readRole pair) (ownReadRole pair) s

/-! ### Events -/

/-- The claim burst ends: the tone field frees and the quiet timer leaves BURST (R154). -/
def State.claimBurstEnd (s : State) (p : Pair) : State :=
  match (s.pair p).role with
  | .claiming t .burst =>
    (s.releaseTone p).modPair p fun q => { q with role := .claiming t q.quietAfterBurst }
  | _ => s

/-- CLAIM_BURST_END (R154). -/
def execClaimBurstEnd (p : Pair) (s : State) : Host.Outcome State Fault Refusal := live s (·.claimBurstEnd p)

/-- A keep burst ends: the tone field frees and a waiting command frame begins (R7). -/
def State.keepBurstEnd (s : State) (p : Pair) : State :=
  match (s.pair p).tone.use with
  | .keepBurst _ => s.releaseTone p
  | _ => s

/-- KEEP_BURST_END (R7). -/
def execKeepBurstEnd (p : Pair) (s : State) : Host.Outcome State Fault Refusal := live s (·.keepBurstEnd p)

/-- The quiet count at which a claim succeeds, in REFCLK cycles (R155). -/
def PairConfig.quietCycles (c : PairConfig) : Nat := c.quietTime * Config.cyclesPerMs

/-- The claim timer at which a claim times out (R154). -/
def PairConfig.timeoutCycles (c : PairConfig) : Nat := c.claimTimeout * Config.cyclesPerSecond

/-- The collision count at which a collision occurs (R163). -/
def PairConfig.collisionCycles (c : PairConfig) : Nat := c.collisionTime * Config.cyclesPerMs

/-- Whether the quiet count of a claim has reached Tq (R156). -/
def PairState.claimWonDue (q : PairState) : Bool :=
  match q.role with
  | .claiming _ (.counting n) => decide (q.config.quietCycles ≤ n)
  | _ => false

/-- A claim succeeds: HOLDER, a sweep if the pair may sweep, and the queue's next start (R156). -/
def State.claimWon (s : State) (p : Pair) : State :=
  if (s.pair p).claimWonDue then ((s.setRole p (.holder .idle) .claimWon).considerSweep p).startNext else s

/-- CLAIM_WON (R156). -/
def execClaimWon (p : Pair) (s : State) : Host.Outcome State Fault Refusal := live s (·.claimWon p)

/-- Whether the claim timer has reached the claim timeout (R157). -/
def PairState.claimTimeoutDue (q : PairState) : Bool :=
  match q.role with
  | .claiming t _ => decide (q.config.timeoutCycles ≤ t)
  | _ => false

/-- A claim times out (R157). -/
def State.claimTimeout (s : State) (p : Pair) : State :=
  if (s.pair p).claimTimeoutDue then s.endClaim p .roleTimeout else s

/-- CLAIM_TIMEOUT (R157). -/
def execClaimTimeout (p : Pair) (s : State) : Host.Outcome State Fault Refusal := live s (·.claimTimeout p)

/-- Whether the collision count has reached the collision time (R163). -/
def PairState.collisionDue (q : PairState) : Bool :=
  match q.role with
  | .holder (.counting n) => decide (q.config.collisionCycles ≤ n)
  | _ => false

/-- A collision: its flag, and by the end setting a PROMPT yield, a completion that is due taken first (R73), or a keep
burst with the timer restarted (R163). -/
def State.collide (s : State) (p : Pair) : State :=
  if (s.pair p).collisionDue then
    match s.endSetting with
    | .endB => ((s.takeCompletion p).setPairFlag p .collision).enterYielding p .prompt .collision
    | .endA => ((s.setPairFlag p .collision).orderKeep p).modPair p fun q => { q with role := .holder (.counting 0) }
  else s

/-- COLLISION (R163). -/
def execCollision (p : Pair) (s : State) : Host.Outcome State Fault Refusal := live s (·.collide p)

end Sys2Proof.Machine
end

