-- ==== Sys2Proof/Machine/Exchange.lean ====
section
/-! DEFINITION. An exchange on the line: symbols and readback, the frame's end, reception, decoding, retries and the
exchange's end (R119 to R130). -/

namespace Sys2Proof.Machine

/-! ### The end of an attempt and of an exchange -/

/-- The request made of the Repeater Table when an entry ends DONE (R129). -/
def State.tableEffect (s : State) (e : QueueEntry) : State :=
  match e.command, e.argument with
  | .loopbackMute, 1 => s.muteRecord e.pair e.index
  | .loopbackMute, 0 => s.unmuteRecord e.pair e.index
  | .release, _ => s.unmuteRecord e.pair e.index
  | _, _ => s

/-- The entry in flight takes its result: a host-origin one stays in its place, a fault-origin one leaves the queue and
is delivered (R128). -/
def State.settle (s : State) (e : QueueEntry) (result : ExchangeResult) (reply : List Byte) : State :=
  match e.origin with
  | .host _ => s.modFlight fun e => { e with state := .done result reply false }
  | .fault id => { s with queue := dropFirst QueueEntry.isInFlight s.queue }.deliver id result reply

/-- An exchange ends: its result is handed over, the Line Role Controller told, the table asked, and the next start
decided (R128, R129, R117). -/
def State.endExchange (s : State) (e : QueueEntry) (result : ExchangeResult) (reply : List Byte) : State :=
  let s := (s.settle e result reply).reportExchangeEnd e.pair
  (if result = .done then s.tableEffect e else s).startNext

/-- The results after which a retry is considered (R127). -/
def ExchangeResult.retryable : ExchangeResult → Bool
  | .noReply | .checkError | .badReply => true
  | _ => false

/-- The retry decision (R127). -/
def State.retries (s : State) (e : QueueEntry) (result : ExchangeResult) : Bool :=
  result.retryable && decide (1 ≤ e.retries) && decide ((s.pair e.pair).role.name = .holder)
    && !(s.pair e.pair).det.lossDeclared

/-- An attempt ends: a new one begins at once, or the entry ends with its result (R127). -/
def State.endAttempt (s : State) (e : QueueEntry) (result : ExchangeResult) (reply : List Byte) : State :=
  if s.retries e result then
    (s.modFlight fun e => { e with retries := e.retries - 1, attempts := e.attempts + 1 }).askTone e.pair
  else s.endExchange e result reply

/-! ### Symbols -/

/-- REFCLK cycles in a tone symbol (R6, R119). -/
def Captured.symbolCycles (c : Captured) : Nat := c.symbolTime * Config.cyclesPerMs

/-- Whether symbol `k` is the last that will be sent (R119, R121). -/
def lastOfFrame (k : Nat) (stopAt : Option Nat) : Bool := decide (66 ≤ k) || decide (stopAt = some k)

/-- The comparison in symbol `k`: a first mismatch decides where the transmission stops (R121). -/
def compareAt (e : QueueEntry) (c : Captured) (readback : Tone) (k : Nat) (stopAt : Option Nat) : Phase :=
  .transmitting k (c.symbolCycles / 2) true
    (match stopAt with
      | some x => some x
      | none => if readback = symbolTone c e.command e.argument k then none else some (stopSymbol k))

/-- The phase after a midpoint: that of the symbol being sent, or of the next one when the one being sent has had its
midpoint (R121). Nothing follows the last symbol. -/
def QueueEntry.midpoint (e : QueueEntry) (readback : Tone) : QueueEntry :=
  match e.state with
  | .inFlight c (.transmitting k n compared stopAt) =>
    if compared then
      if lastOfFrame k stopAt then e.withPhase (.transmitting k n true stopAt)
      else e.withPhase (compareAt e c readback (k + 1) stopAt)
    else e.withPhase (compareAt e c readback k stopAt)
  | _ => e

/-- Whether an entry is being transmitted. -/
def QueueEntry.isTransmitting (e : QueueEntry) : Bool :=
  match e.state with
  | .inFlight _ (.transmitting ..) => true
  | _ => false

/-- The midpoint of a symbol, with the readback as it stands (R8, R121). -/
def State.midpoint (s : State) (readback : Tone) : State :=
  match s.flight with
  | some e =>
    if e.isTransmitting then
      (s.modPair e.pair fun q => { q with inputs := { q.inputs with readback := readback } }).modFlight
        (·.midpoint readback)
    else s
  | none => s

/-- TONE_SYMBOL_MIDPOINT (R121). -/
def execToneSymbolMidpoint (readback : Tone) (s : State) : Host.Outcome State Fault Refusal :=
  live s (·.midpoint readback)

/-- The REFCLK cycles from E to T0: the round trip at the captured chip code, and the turnaround (R122). -/
def Captured.replyDelay (c : Captured) (t : CapturedTarget) : Nat :=
  t.centre * chipCycles c.chipCode + c.turnaround * Config.cyclesPerMs

/-- A frame sent whole and without mismatch: the tone field frees, a broadcast ends SENT, a single repeater's reply is
awaited (R122). -/
def State.frameEnd (s : State) : State :=
  match s.flight with
  | some e =>
    match e.state with
    | .inFlight c (.transmitting 66 _ true none) =>
      let s := s.releaseTone e.pair
      match c.target with
      | none => s.endExchange e .sent []
      | some t =>
        s.modFlight (·.withPhase (.awaitingReply s.now (c.replyDelay t)))
    | _ => s
  | none => s

/-- COMMAND_FRAME_END (R122). -/
def execCommandFrameEnd (s : State) : Host.Outcome State Fault Refusal := live s (·.frameEnd)

/-- The stop after a mismatch: DRIVE FAULT, the tone field free, and the entry ends DRIVE ERROR (R121). -/
def State.driveStop (s : State) : State :=
  match s.flight with
  | some e =>
    match e.state with
    | .inFlight _ (.transmitting k _ true (some x)) =>
      if k = x then ((s.releaseTone e.pair).setPairFlag e.pair .driveFault).endExchange e .driveError [] else s
    | _ => s
  | none => s

/-- DRIVE_ERROR_STOP (R121). -/
def execDriveErrorStop (s : State) : Host.Outcome State Fault Refusal := live s (·.driveStop)

/-! ### Reception -/

/-- Whether a chip of the pair begins now: no cycle of it has passed and no period boundary is to be taken first. -/
def PairState.atBoundary (q : PairState) : Bool :=
  decide (q.role.name ≠ .parked) && decide (q.clock.chipCycles = 0) && !q.clock.periodDue

/-- A reception that begins during a pass of its pair marks the record's window, when the chip that begins belongs to
the pass (R36). -/
def Bank.disturbed (b : Bank) (p : Pair) (index : Nat) : Bank :=
  match b with
  | .running l done => if l.pair = p ∧ done < l.periods then .running (l.disturb index) done else b
  | b => b

/-- The times of a reply whose reception begins now: those stamped at T0, or, where RECEPTION_START says that T0 has
come before its cycles have been counted, a T0 of now (R122). DESIGN CHOICE: log entry 23. -/
def QueueEntry.receptionTimes (e : QueueEntry) (now : Timebase) : Option ReplyTimes :=
  match e.state with
  | .inFlight _ (.replyDue times) => some times
  | .inFlight c (.awaitingReply frameEnd _) => some (c.stampReply e.command frameEnd now)
  | _ => none

/-- Reception begins at a chip boundary of the pair (R123). -/
def State.receptionStart (s : State) : State :=
  match s.flight with
  | some e =>
    match e.receptionTimes s.time with
    | some times =>
      if (s.pair e.pair).atBoundary then
        { s.modFlight (·.withPhase (.receiving times [] 0 0)) with bank := s.bank.disturbed e.pair e.index }
      else s
    | none => s
  | none => s

/-- RECEPTION_START (R123). -/
def execReceptionStart (s : State) : Host.Outcome State Fault Refusal := live s (·.receptionStart)

/-- A number from bits, most significant first. -/
def bitsValue (bits : List Bool) : Nat := bits.foldl (fun n b => 2 * n + (if b then 1 else 0)) 0

/-- Bits read as bytes, the most significant bit first (R123). -/
def bitBytes (bits : List Bool) : Nat → List Byte
  | 0 => []
  | n + 1 => BitVec.ofNat 8 (bitsValue (bits.take 8)) :: bitBytes (bits.drop 8) n

/-- A reply whose marker was good, decoded by the first row of R126 that fits; the bits are those after the marker. -/
def decodeReply (e : QueueEntry) (c : Captured) (bits : List Bool) : ExchangeResult × List Byte :=
  let n := dataBits e.command / 8
  let data := bitBytes bits n
  let check := bitBytes (bits.drop (8 * n)) 1
  if check ≠ [checkByte (checkedBytes c.checkMode c.address data)] then (.checkError, [])
  else if e.command = .query then (.done, data)
  else
    match data with
    | [b] =>
      let high := b.extractLsb' 4 4
      if (high ≠ 0xA ∧ high ≠ 0x5) ∨ b.extractLsb' 0 4 ≠ e.command.code.extractLsb' 0 4 then (.badReply, [])
      else if high = 0x5 then (.refused, data)
      else (.done, data)
    | _ => (.badReply, [])

/-- The value of a reply bit: its amplitude against the captured threshold (R124). -/
def replyBitValue (c : Captured) (threshold : Nat) (sum : Int) : Bool :=
  decide ((threshold : Int) ≤ roundTiesAway (sum * 256) c.replyBit)

/-- The reply judged with one more bit: the marker after its second bit, the reply after its last (R125). -/
def State.judgeBits (s : State) (e : QueueEntry) (c : Captured) (times : ReplyTimes) (bits : List Bool) : State :=
  if bits.length = 2 ∧ bits ≠ [true, false] then s.endAttempt e .noReply []
  else if bits.length = 2 + dataBits e.command + 8 then
    let x := decodeReply e c (bits.drop 2)
    s.endAttempt e x.1 x.2
  else s.modFlight (·.withPhase (.receiving times bits 0 0))

/-- Whether the reply bit in progress has had its last chip (R124). -/
def QueueEntry.bitDue (e : QueueEntry) : Bool :=
  match e.state with
  | .inFlight c (.receiving _ _ _ n) => decide (c.replyBit ≤ n)
  | _ => false

/-- A reply bit ends (R124, R125). -/
def State.replyBit (s : State) : State :=
  match s.flight with
  | some e =>
    match e.state with
    | .inFlight c (.receiving times bits sum _) =>
      if e.bitDue then
        s.judgeBits e c times (bits ++ [replyBitValue c ((c.target.map (·.threshold)).getD 0) sum])
      else s
    | _ => s
  | none => s

/-- REPLY_BIT (R124). -/
def execReplyBit (s : State) : Host.Outcome State Fault Refusal := live s (·.replyBit)

/-- One chip of a reception of the pair: return(t) × chip(t − ℓ) joins the sum (R124). -/
def QueueEntry.takeChip (e : QueueEntry) (order position : Nat) (sample : Int) : QueueEntry :=
  match e.state with
  | .inFlight c (.receiving times bits sum n) =>
    if n < c.replyBit then
      e.withPhase
        (.receiving times bits (sum + sample * chipBefore order position ((c.target.map (·.replyLag)).getD 0)) (n + 1))
    else e
  | _ => e

/-! ### Return loss -/

/-- What a declaration leaves on the tone field of an exchange it cuts: a request for the field is withdrawn, a symbol
being sent is finished (R130). -/
def ToneField.cut (t : ToneField) (e : QueueEntry) : ToneField :=
  match e.state with
  | .inFlight _ .toneWait => { t with waiting := t.waiting.erase .commandFrame }
  | .inFlight c (.transmitting k n _ _) =>
    { t with use := .lastSymbol (symbolTone c e.command e.argument k) (c.symbolCycles - n) }
  | _ => t

/-- Return loss declared on a pair ends its exchange in flight (R130). A readback mismatch that waits for the end of its
byte is discarded with the exchange, the symbol that is finished is not compared, and neither sets DRIVE FAULT: DESIGN
CHOICE, log entry 32. -/
def State.cutExchange (s : State) (p : Pair) : State :=
  match s.flight with
  | some e =>
    if e.pair = p then
      (s.modPair p fun q => { q with tone := q.tone.cut e }).endExchange e .returnLoss []
    else s
  | none => s

end Sys2Proof.Machine
end

