-- ==== Sys2Proof/Machine/Line.lean ====
section
/-! DEFINITION. The Probe Generator and the Return Interface: configuration, modes, injection, samples, and the
line-side detectors (R9 to R31). -/

namespace Sys2Proof.Machine

/-! ### CONFIGURE PAIR and READ PAIR CONFIG -/

/-- The detectors at a new origin: partial judgements restart, states are kept (R12, R27). -/
def Detectors.restart (d : Detectors) : Detectors :=
  { d with
    lossRun := 0
    strong := 0
    disagree := 0
    blockSum := 0
    blockPos := 0
    claimTone := { d.claimTone with run := 0 }
    keepTone := { d.keepTone with run := 0 } }

/-- A taken CONFIGURE PAIR; outside PARKED the chip clock takes a new origin (R1, R12). -/
def PairState.configure (q : PairState) (c : PairConfig) : PairState :=
  if q.role.name = .parked then { q with config := c }
  else { q with config := c, clock := .origin, det := q.det.restart }

/-- CONFIGURE PAIR (R10). -/
def ownConfigurePair (pair : Byte) (params : List Word) (s : State) : State × Answer :=
  withPair pair (fun p s =>
    let q := s.pair p
    let ps := params.map (·.toNat)
    if q.role.name ≠ .parked ∧ q.role.name ≠ .listen then (s, .refused .wrongState)
    else
      match firstFailing ps q.records with
      | some n => (s, .refused .badValue 0 (BitVec.ofNat 8 n))
      | none => (s.setPair p (q.configure (.ofParams ps)), .ok [])) s

/-- The data of READ PAIR CONFIG (R13, R186). -/
def configBlock (q : PairState) : List Byte :=
  q.config.toParams.flatMap u32 ++ [q.role.name.code, q.role.name.modeCode] ++ u16 q.config.length
    ++ u16 q.config.quietTime ++ u16 q.clock.chip ++ be32 q.clock.period

/-- READ PAIR CONFIG (R13). -/
def ownReadPairConfig (pair : Byte) (s : State) : State × Answer :=
  withPair pair (fun p s => (s, .ok (configBlock (s.pair p)))) s

/-! ### The synthetic echo source -/

/-- The amplitude of a record's echo, scaled when an injected fault covers it (R28, R31). -/
def echoAmplitude (injected : Option Injection) (r : RepeaterRecord) : Nat :=
  match injected with
  | some i => if i.first ≤ r.index then roundHalfUp (r.baseline * i.factor) 262144 else roundHalfUp r.baseline 256
  | none => roundHalfUp r.baseline 256

/-- The synthetic sample of a chip at a sequence position (R28, R29). -/
def PairState.echoSample (q : PairState) (position : Nat) : Int :=
  clampInt (-2048) 2047
    (((q.records.filter fun r => !r.excluded).map fun r =>
      (echoAmplitude q.injected r : Int) * chipBefore q.config.order position r.nominalLag).sum)

/-- A chip begins: in LOCAL the synthetic source forms its sample, and a pair that holds the line drives its chip from
here on (R5, R19, R28). Once formed the sample stands to the end of its chip, so an injection set or removed (R30) and
an exclusion set or cleared (R49, R50) during a chip reach the samples from the next chip on: DESIGN CHOICE, log entry
22. -/
def PairState.beginChip (q : PairState) : PairState :=
  { q with
    source := if q.role.name = .synthetic then some (q.echoSample q.clock.chip) else none
    probeOn := decide (q.role.name = .holder) || decide (q.role.name = .yielding) }

/-! ### SET PAIR MODE -/

/-- What ends at once when a pair leaves a mode: sweep, learning, waiting steps and entries, injection and synthetic
source; the arbiter decides on a bank that an abort has freed (R15, R16). -/
def State.leaveMode (s : State) (p : Pair) : State :=
  let s := ((s.abandonSweep p).abandonLearning p .role).loseRole p
  (s.modPair p fun q => { q with injected := none, source := none }).arbitrate

/-- Entering PARKED (R15). -/
def State.park (s : State) (p : Pair) : State :=
  let s := (s.setRole p .parked .host).modPair p PairState.silence
  (s.leaveMode p).modPair p fun q => { q with clock := .origin, det := .reset }

/-- A pair is to enter PARKED: a completion that is due is taken first (R73, log entry 17), and an exchange that its
fourth stage has started on the pair refuses the request (R15). -/
def parkOrRefuse (p : Pair) (s : State) : State × Answer :=
  let t := s.takeCompletion p
  if t.inFlightOn p then (t.replan p, .refused .wrongState) else (t.park p, .ok [])

/-- SET PAIR MODE DISABLED (R15). -/
def setDisabled (p : Pair) (s : State) : State × Answer :=
  match (s.pair p).role with
  | .yielding .. => (s, .refused .wrongState)
  | .parked => if s.inFlightOn p then (s, .refused .wrongState) else (s, .ok [])
  | _ => if s.inFlightOn p then (s, .refused .wrongState) else parkOrRefuse p s

/-- SET PAIR MODE ENABLED (R16). Leaving LOCAL finds a completion that is due taken in full (R73): log entry 17. -/
def setEnabled (p : Pair) (s : State) : State × Answer :=
  match (s.pair p).role with
  | .parked =>
    ((s.setRole p .listen .host).modPair p fun q => { q with clock := .origin, det := .reset }, .ok [])
  | .synthetic => (((s.takeCompletion p).setRole p .listen .host).leaveMode p, .ok [])
  | _ => (s, .ok [])

/-- A pair enters LOCAL from PARKED or LISTEN: the chip that begins at the entry is synthetic, a chip in progress
delivers its line sample (R17, R19). -/
def State.enterSynthetic (s : State) (p : Pair) : State :=
  let s := s.setRole p .synthetic .host
  let s := s.modPair p fun q => if q.atBoundary then q.beginChip else q
  s.considerSweep p

/-- SET PAIR MODE SYNTHETIC (R17). -/
def setSynthetic (p : Pair) (s : State) : State × Answer :=
  match (s.pair p).role with
  | .parked =>
    ((s.modPair p fun q => { q with clock := .origin, det := .reset }).enterSynthetic p, .ok [])
  | .listen => (s.enterSynthetic p, .ok [])
  | _ => (s, .refused .wrongState)

/-- SET PAIR MODE (R14). -/
def ownSetPairMode (pair mode : Byte) (s : State) : State × Answer :=
  withPair pair (fun p s =>
    match mode.toNat with
    | 0 => setDisabled p s
    | 1 => setEnabled p s
    | 2 => setSynthetic p s
    | _ => (s, .refused .badValue)) s

/-! ### INJECT FAULT -/

/-- The injection in force, as a reply carries it (R30, R186). -/
def encodeInjection : Option Injection → List Byte
  | some i => u8 i.first ++ u16 i.factor
  | none => [0, 0, 0]

/-- INJECT FAULT (R30). -/
def ownInjectFault (pair first : Byte) (factor : Half) (s : State) : State × Answer :=
  withPair pair (fun p s =>
    let q := s.pair p
    if q.role.name ≠ .synthetic then (s, .refused .wrongState)
    else if factor.toNat > 1023 then (s, .refused .badValue)
    else if first.toNat > q.records.length then (s, .refused .notFound)
    else
      let i := if first.toNat = 0 then none else some ⟨first.toNat, factor.toNat⟩
      (s.setPair p { q with injected := i }, .ok (encodeInjection i))) s

/-- CONFIGURE_PAIR (R10). -/
def execConfigurePair (tag pair : Byte) (params : List Word) (s : State) : Host.Outcome State Fault Refusal :=
  request tag (.configurePair pair params) (ownConfigurePair pair params) s

/-- READ_PAIR_CONFIG (R13). -/
def execReadPairConfig (tag pair : Byte) (s : State) : Host.Outcome State Fault Refusal :=
  request tag (.readPairConfig pair) (ownReadPairConfig pair) s

/-- SET_PAIR_MODE_DISABLED (R15). -/
def execSetPairModeDisabled (tag pair : Byte) (s : State) : Host.Outcome State Fault Refusal :=
  request tag (.setPairMode pair 0) (ownSetPairMode pair 0) s

/-- SET_PAIR_MODE_ENABLED (R16). -/
def execSetPairModeEnabled (tag pair : Byte) (s : State) : Host.Outcome State Fault Refusal :=
  request tag (.setPairMode pair 1) (ownSetPairMode pair 1) s

/-- SET_PAIR_MODE_SYNTHETIC (R17). -/
def execSetPairModeSynthetic (tag pair : Byte) (s : State) : Host.Outcome State Fault Refusal :=
  request tag (.setPairMode pair 2) (ownSetPairMode pair 2) s

/-- INJECT_FAULT (R30). -/
def execInjectFault (tag pair first : Byte) (factor : Half) (s : State) : Host.Outcome State Fault Refusal :=
  request tag (.injectFault pair first factor) (ownInjectFault pair first factor) s

/-! ### Samples -/

/-- Whether a sample reaches the return floor (R20, R21). -/
def strongSample (floor : Nat) (x : Int) : Bool := decide (floor ≤ x.natAbs)

/-- A sample judged by the return-loss detector and summed by the far-activity detector (R20, R21, R23). -/
def Detectors.take (d : Detectors) (floor : Nat) (x : Int) : Detectors :=
  { d with
    lossRun := if d.lossDeclared || strongSample floor x then 0 else d.lossRun + 1
    strong := if strongSample floor x then d.strong + 1 else d.strong
    blockSum := d.blockSum + x.natAbs
    blockPos := d.blockPos + 1 }

/-- A sample reaches the bank when it runs a pass of the pair whose last chip has not passed (R33, R34). -/
def Bank.takeChip (b : Bank) (p : Pair) (order position : Nat) (x : Int) : Bank :=
  match b with
  | .running l done => if l.pair = p ∧ done < l.periods then .running (l.addChip order position x) done else b
  | b => b

/-- A chip ends: the chip counter advances, or the period boundary becomes due (R2). -/
def PairState.endChip (q : PairState) : PairState :=
  if q.clock.chip + 1 < q.config.length then
    let next : PairState := { q with clock := { q.clock with chip := q.clock.chip + 1, chipCycles := 0 } }
    next.beginChip
  else { q with clock := { q.clock with chipCycles := 0, periodDue := true } }

/-- The sample of the chip in progress: the synthetic source's, or the last strobe's value, 0 without a strobe
(R18, R19). -/
def PairState.sample (q : PairState) (strobe : Option (BitVec 12)) : Int :=
  match q.source, strobe with
  | some x, _ => x
  | none, some v => v.toInt
  | none, none => 0

/-- Whether return loss is to be declared (R20). -/
def PairState.lossDue (q : PairState) : Bool :=
  decide (q.role.name ≠ .parked) && !q.det.lossDeclared && decide (q.config.lossRun ≤ q.det.lossRun)

/-- Whether a far-activity block is to be judged (R23). -/
def PairState.blockDue (q : PairState) : Bool :=
  decide (q.role.name ≠ .parked) && decide (Config.blockChips ≤ q.det.blockPos)

/-- Whether a period boundary is to be taken (R2). -/
def PairState.boundaryDue (q : PairState) : Bool := decide (q.role.name ≠ .parked) && q.clock.periodDue

/-- Whether a pass of the pair is to begin: ARMED, at a period boundary, and not held back to the next one (R33,
R70). -/
def State.passBeginDue (s : State) (p : Pair) : Bool :=
  let q := s.pair p
  s.bank.armedFor p && q.atBoundary && decide (q.clock.chip = 0)
    && (match q.sweep with | some w => !w.awaitBoundary | none => false)

/-- Whether the bank's pass of a pair has run its K periods (R37). -/
def Bank.passEndDue (b : Bank) (p : Pair) : Bool :=
  match b with
  | .running l done => decide (l.pair = p) && decide (l.periods ≤ done)
  | _ => false

/-- Whether a reply bit of the pair is to be judged (R124). -/
def State.replyBitDue (s : State) (p : Pair) : Bool :=
  match s.flight with
  | some e => decide (e.pair = p) && e.bitDue
  | none => false

/-- Whether a step at the last chip boundary of the pair is still to be taken. -/
def State.boundaryStepDue (s : State) (p : Pair) : Bool :=
  let q := s.pair p
  q.lossDue || q.blockDue || q.boundaryDue || s.passBeginDue p || s.bank.passEndDue p || s.replyBitDue p

/-- One chip of a pair that is not PARKED ends: its sample goes to the detectors, to the bank and to the reply detector,
and the chip counter advances (R18 to R20, R34, R124). It waits for the steps due at the boundary before it. DESIGN
CHOICE: log entry 5. -/
def State.returnSample (s : State) (p : Pair) (strobe : Option (BitVec 12)) : State :=
  let q := s.pair p
  if q.role.name = .parked ∨ s.boundaryStepDue p then s
  else
    let x := q.sample strobe
    let order := q.config.order
    let position := q.clock.chip
    let s := if s.inFlightOn p then s.modFlight (·.takeChip order position x) else s
    let after := { q with det := q.det.take q.config.returnFloor x }
    { s.setPair p after.endChip with bank := s.bank.takeChip p order position x }

/-- RETURN_SAMPLE (R18). -/
def execReturnSample (p : Pair) (strobe : Option (BitVec 12)) (s : State) : Host.Outcome State Fault Refusal :=
  live s (·.returnSample p strobe)

/-! ### Return loss -/

/-- Return loss is declared: a completion that is due taken first, the flag, the pair's sweep abandoned, its exchange
ended (R20, R22, R71, R73, R130). -/
def State.declareLoss (s : State) (p : Pair) : State :=
  if (s.pair p).lossDue then
    let s := ((s.takeCompletion p).modPair p fun q => { q with
      det := { q.det with lossDeclared := true, lossRun := 0 } }).setPairFlag p .returnLoss
    let s := s.abandonSweep p
    let s := if (s.pair p).passInBank then s else s.reportLeftBank p
    (s.cutExchange p).arbitrate
  else s

/-- RETURN_LOSS_DECLARED (R20). -/
def execReturnLossDeclared (p : Pair) (s : State) : Host.Outcome State Fault Refusal := live s (·.declareLoss p)

/-- Whether the period that ends clears a declared return loss (R21). -/
def PairState.lossClears (q : PairState) : Bool :=
  q.det.lossDeclared && decide ((q.config.length + 1) / 2 ≤ q.det.strong)

/-- The pair's part of a period boundary (R2, R21, R70). -/
def PairState.crossBoundary (q : PairState) : PairState :=
  let next : PairState := { q with
    clock := { q.clock with chip := 0, period := q.clock.period + 1, chipCycles := 0, periodDue := false }
    det := { q.det with lossDeclared := q.det.lossDeclared && !q.lossClears, strong := 0 }
    sweep := q.sweep.map fun (w : Sweep) => { w with awaitBoundary := false } }
  next.beginChip

/-- One more period of a RUNNING pass of the pair has ended (R33). -/
def Bank.countPeriod (b : Bank) (p : Pair) : Bank :=
  match b with
  | .running l done => if l.pair = p then .running l (done + 1) else b
  | b => b

/-- A return loss has cleared: the flag, a sweep if the pair may sweep, and the queue's next start (R22, R66, R117). -/
def State.lossCleared (s : State) (p : Pair) : State :=
  ((s.setPairFlag p .returnLoss).considerSweep p).startNext

/-- A period boundary (R2, R21). -/
def State.periodBoundary (s : State) (p : Pair) : State :=
  let q := s.pair p
  if q.boundaryDue then
    let t := { s.setPair p q.crossBoundary with bank := s.bank.countPeriod p }
    if q.lossClears then t.lossCleared p else t
  else s

/-- PERIOD_BOUNDARY (R21). -/
def execPeriodBoundary (p : Pair) (s : State) : Host.Outcome State Fault Refusal := live s (·.periodBoundary p)

/-! ### Far activity and far tones -/

/-- Whether the block is active: its mean magnitude is at least the activity level (R23). -/
def PairState.blockActive (q : PairState) : Bool := decide (Config.blockChips * q.config.activityLevel ≤ q.det.blockSum)

/-- Whether the block changes the far-activity state: the second in a row that disagrees (R24). -/
def PairState.blockChanges (q : PairState) : Bool :=
  decide (q.blockActive ≠ q.det.farPresent) && decide (1 ≤ q.det.disagree)

/-- The detector after a block (R23, R24). -/
def PairState.afterBlock (q : PairState) : Detectors :=
  { q.det with
    farPresent := if q.blockChanges then q.blockActive else q.det.farPresent
    disagree := if q.blockActive ≠ q.det.farPresent ∧ q.det.disagree = 0 then 1 else 0
    blockSum := 0
    blockPos := 0 }

/-- A block ends and is judged; a change of state is reported to the Line Role Controller (R23, R24). -/
def State.activityBlock (s : State) (p : Pair) : State :=
  let q := s.pair p
  if q.blockDue then
    let role := if q.blockChanges then (if q.blockActive then q.role.farBegins else q.role.farEnds) else q.role
    s.setPair p { q with det := q.afterBlock, role := role }
  else s

/-- FAR_ACTIVITY_BLOCK (R23). -/
def execFarActivityBlock (p : Pair) (s : State) : Host.Outcome State Fault Refusal := live s (·.activityBlock p)

/-- One millisecond of a far-tone detector, and whether it raises its event (R26). -/
def ToneDetector.judge (d : ToneDetector) (detectTime : Nat) (present : Bool) : ToneDetector × Bool :=
  if d.held = present then ({ d with run := 0 }, false)
  else if d.run + 1 < detectTime then ({ d with run := d.run + 1 }, false)
  else (⟨!d.held, 0⟩, !d.held)

/-- Whether a measured tone is present in a millisecond; in LOCAL none is (R25). -/
def PairState.tonePresent (q : PairState) (amplitude : Nat) : Bool :=
  decide (q.role.name ≠ .synthetic) && decide (q.config.activityLevel ≤ amplitude)

/-- Whether a far claim makes the pair yield (R159). -/
def PairState.yieldsOnClaim (q : PairState) : Bool :=
  decide (q.role.name = .holder) && decide (q.config.yieldPolicy = .yield)

/-- A millisecond of the chip clock of a pair that is not PARKED: both detectors judge, and their events reach the
Line Role Controller, the claim tone first (R25, R26). DESIGN CHOICE of that order: log entry 11. A yield finds a
completion that is due taken in full (R73): log entry 17. -/
def State.farMillisecond (s : State) (p : Pair) (f3 f4 : Nat) : State :=
  let q := s.pair p
  if q.role.name = .parked then s
  else
    let claim := q.det.claimTone.judge q.config.detectTime (q.tonePresent f3)
    let keep := q.det.keepTone.judge q.config.detectTime (q.tonePresent f4)
    let s := if claim.2 && q.yieldsOnClaim then s.takeCompletion p else s
    let s := s.modPair p fun q => { q with
      clock := { q.clock with msCycles := 0 }
      inputs := { q.inputs with f3 := f3, f4 := f4 }
      det := { q.det with claimTone := claim.1, keepTone := keep.1 } }
    let s := if claim.2 then s.farClaim p else s
    if keep.2 then s.farKeep p else s

/-- FAR_TONE_MILLISECOND (R26). -/
def execFarToneMillisecond (p : Pair) (f3 f4 : Nat) (s : State) : Host.Outcome State Fault Refusal :=
  live s (·.farMillisecond p f3 f4)

end Sys2Proof.Machine
end

