-- ==== Sys2Proof/Machine/Passes.lean ====
section
/-! DEFINITION. Passes: how a pass of the bank begins and ends, and what Sweep Control makes of its delivery (R33, R37,
R40, R70, R72). -/

namespace Sys2Proof.Machine

/-- The reception in force on a pair, by record index (R36, R123). -/
def State.receptionOn (s : State) (p : Pair) : Option Nat :=
  match s.flight with
  | some e =>
    if e.pair = p then
      match e.state with
      | .inFlight _ (.receiving ..) => some e.index
      | _ => none
    else none
  | none => none

/-- An ARMED plan begins to run; a reception in force marks its record's window (R33, R36). -/
def Bank.begin (b : Bank) (reception : Option Nat) : Bank :=
  match b with
  | .armed l =>
    match reception with
    | some i => .running (l.disturb i) 0
    | none => .running l 0
  | b => b

/-- An ARMED pass begins at a period boundary of its pair (R33). -/
def State.passBegin (s : State) (p : Pair) : State :=
  if s.passBeginDue p then { s with bank := s.bank.begin (s.receptionOn p) } else s

/-- PASS_BEGIN (R33). -/
def execPassBegin (p : Pair) (s : State) : Host.Outcome State Fault Refusal := live s (·.passBegin p)

/-- A sweep after one of its passes has delivered: PASS READY for the next pass, or to be completed with this time stamp
(R70, R75). -/
def Sweep.deliver (w : Sweep) (ms : List WindowMeasurement) (now : LineTime) : Sweep :=
  if w.passNo < w.passes.length then { w with held := w.held ++ ms, passNo := w.passNo + 1, stage := .ready }
  else { w with held := w.held ++ ms, stage := .completing now }

/-- What Sweep Control makes of a delivery: the pass held or the completion begun; a YIELDING pair's sweep that has not
had its last pass is abandoned (R70, R72). -/
def State.takeDelivery (s : State) (p : Pair) (ms : List WindowMeasurement) : State :=
  match (s.pair p).sweep with
  | some w =>
    let s := s.modPair p fun q => { q with sweep := some (w.deliver ms s.now) }
    if w.passNo < w.passes.length ∧ (s.pair p).role.name = .yielding then
      (s.abandonSweep p).reportLeftBank p
    else s
  | none => s

/-- A RUNNING pass ends after its K periods: measurements delivered, the bank IDLE, and the arbiter decides (R37, R40,
R69, R70). -/
def State.passEnd (s : State) (p : Pair) : State :=
  if s.bank.passEndDue p then
    match s.bank with
    | .running l _ => ({ s with bank := .idle }.takeDelivery p (l.measure (s.pair p).config.length)).arbitrate
    | _ => s
  else s

/-- PASS_END (R37). -/
def execPassEnd (p : Pair) (s : State) : Host.Outcome State Fault Refusal := live s (·.passEnd p)

end Sys2Proof.Machine
end

