-- ==== Sys2Proof/Machine/Port.lean ====
section
/-! DEFINITION. The Message Port and the Timebase: identity, resets, line time, events, the frame receiver, the request
queue and the transmitter (R167 to R181). -/

namespace Sys2Proof.Machine

/-! ### Identity, time and events -/

/-- IDENTIFY (R176). -/
def ownIdentify (s : State) : State × Answer := (s, .ok (identityData s))

/-- RESET: its reply joins the reply queue and no further request is taken (R177). -/
def ownReset (s : State) : State × Answer :=
  ({ s with port := { s.port with resetPhase := .replyQueued } }, .ok [])

/-- Line time as a reply carries it. -/
def timeData (s : State) : List Byte := s.now.encode

/-- The Timebase set (R180). -/
def State.setClock (s : State) (seconds : Word) (fraction : Nat) : State :=
  { s with time := ⟨seconds, fraction, 0⟩ }

/-- SET TIME (R180). -/
def ownSetTime (seconds : Word) (fraction : Option Half) (s : State) : State × Answer :=
  let f := (fraction.map (·.toNat)).getD 0
  if f > 1023 then (s, .refused .badValue)
  else
    let t := s.setClock seconds f
    (t, .ok (timeData t))

/-- The Timebase moved by a signed number of fractions, carrying into the seconds; the cycle count is kept (R181). -/
def Timebase.adjust (t : Timebase) (offset : Int) : Timebase :=
  let sum := (t.fraction : Int) + offset
  if sum > 1023 then { t with seconds := t.seconds + 1, fraction := (sum - 1024).toNat }
  else if sum < 0 then { t with seconds := t.seconds - 1, fraction := (sum + 1024).toNat }
  else { t with fraction := sum.toNat }

/-- ADJUST TIME (R181). -/
def ownAdjustTime (offset : Half) (s : State) : State × Answer :=
  if offset.toInt < -1023 ∨ 1023 < offset.toInt then (s, .refused .badValue)
  else
    let t := { s with time := s.time.adjust offset.toInt }
    (t, .ok (timeData t))

/-- READ TIME (R180). -/
def ownReadTime (s : State) : State × Answer := (s, .ok (timeData s))

/-- READ EVENTS (R175). -/
def ownReadEvents (s : State) : State × Answer :=
  (s, .ok (s.port.flags.encode ++ s.port.mask.encode ++ [boolCode s.port.noticePending, boolCode s.attn]
    ++ timeData s))

/-- CLEAR EVENTS (R175). -/
def ownClearEvents (selection : List Byte) (s : State) : State × Answer :=
  match selectionOf selection with
  | none => (s, .refused .badValue)
  | some sel =>
    let flags := s.port.flags.without sel
    ({ s with port := { s.port with flags := flags } }, .ok flags.encode)

/-- SET NOTICE MASK: the mask replaced; a kind that becomes ENABLED while a flag of it is SET makes a notice pending
(R174). -/
def ownSetNoticeMask (mask : List Byte) (s : State) : State × Answer :=
  match maskOf mask with
  | none => (s, .refused .badValue)
  | some m =>
    ({ s with port := { s.port with
        mask := m
        noticePending := s.port.noticePending || s.port.flags.anyEnabled (s.port.mask.newlyEnabled m) } }, .ok [])

/-! ### Taking requests -/

/-- The rule that owns a request (R171). -/
def requestOwner (tag : Byte) (r : Request) : State → State × Answer :=
  match r with
  | .identify => ownIdentify
  | .reset => ownReset
  | .setTime s f => ownSetTime s f
  | .adjustTime o => ownAdjustTime o
  | .readTime => ownReadTime
  | .readEvents => ownReadEvents
  | .clearEvents sel => ownClearEvents sel
  | .setNoticeMask m => ownSetNoticeMask m
  | .configurePair p ps => ownConfigurePair p ps
  | .readPairConfig p => ownReadPairConfig p
  | .setPairMode p m => ownSetPairMode p m
  | .injectFault p f q => ownInjectFault p f q
  | .takeRole p => ownTakeRole p
  | .releaseRole p m => ownReleaseRole p m
  | .readRole p => ownReadRole p
  | .loadRepeaters p f rs => ownLoadRepeaters p f rs
  | .editRepeater p i c lo hi pr b x => ownEditRepeater p i c lo hi pr b x
  | .readRepeater p i => ownReadRepeater p i
  | .readResults p r f c => ownReadResults p r f c
  | .readTrace p i => ownReadTrace p i
  | .learnBaseline p t m => ownLearnBaseline p t m
  | .abortLearn p => ownAbortLearn p
  | .readLearning p => ownReadLearning p
  | .listFaults s f => ownListFaults s f
  | .readFault i => ownReadFault i
  | .purgeFault o i s => ownPurgeFault o i s
  | .isolate i a => ownIsolate i a
  | .releaseIsolation i => ownReleaseIsolation i
  | .supervise p i c a => ownSupervise tag p i c a
  | .readQueue => ownReadQueue

/-- A frame taken from the request queue is examined and answered (R171). -/
def State.handleFrame (s : State) (f : Frame) : State :=
  match f.parse with
  | .unknownType => State.answer f.typ f.tag (s, .refused .unknownType)
  | .badLength => State.answer f.typ f.tag (s, .refused .badLength)
  | .request r => State.answer f.typ f.tag (requestOwner f.tag r s)

/-- The oldest queued request is taken and handled (R171). -/
def State.takeOldest (s : State) : State :=
  match s.port.requests with
  | [] => s
  | f :: rest => { s with port := { s.port with requests := rest } }.handleFrame f

/-- Requests are taken while the Message Port may take them, at most `fuel` of them (R171). -/
def State.takeUpTo : Nat → State → State
  | 0, s => s
  | fuel + 1, s => if s.mayTake then takeUpTo fuel s.takeOldest else s

/-- Every queued request that may be taken is taken (R171). -/
def State.takeRequests (s : State) : State := State.takeUpTo s.port.requests.length s

/-- A frame that the receiver found good, or that a row carries: taken at once when the port may take it and none waits
before it, queued or discarded otherwise (R170, R171). -/
def State.arrive (s : State) (f : Frame) : State :=
  if s.mayTake && s.port.requests.isEmpty then s.handleFrame f else s.joinRequests f

/-- REQUEST_UNKNOWN_TYPE: a good frame that is no request of R183, or does not fit its TYPE (R171). -/
def execRequestUnknownType (tag typ : Byte) (payload : List Byte) (s : State) : Host.Outcome State Fault Refusal :=
  live s (·.arrive ⟨typ, tag, payload⟩)

/-- IDENTIFY (R176). -/
def execIdentify (tag : Byte) (s : State) : Host.Outcome State Fault Refusal := request tag .identify ownIdentify s

/-- RESET (R177). -/
def execReset (tag : Byte) (s : State) : Host.Outcome State Fault Refusal := request tag .reset ownReset s

/-- SET_TIME (R180). -/
def execSetTime (tag : Byte) (seconds : Word) (fraction : Option Half) (s : State) :
    Host.Outcome State Fault Refusal :=
  request tag (.setTime seconds fraction) (ownSetTime seconds fraction) s

/-- ADJUST_TIME (R181). -/
def execAdjustTime (tag : Byte) (offset : Half) (s : State) : Host.Outcome State Fault Refusal :=
  request tag (.adjustTime offset) (ownAdjustTime offset) s

/-- READ_TIME (R180). -/
def execReadTime (tag : Byte) (s : State) : Host.Outcome State Fault Refusal := request tag .readTime ownReadTime s

/-- READ_EVENTS (R175). -/
def execReadEvents (tag : Byte) (s : State) : Host.Outcome State Fault Refusal :=
  request tag .readEvents ownReadEvents s

/-- CLEAR_EVENTS (R175). -/
def execClearEvents (tag : Byte) (selection : List Byte) (s : State) : Host.Outcome State Fault Refusal :=
  request tag (.clearEvents selection) (ownClearEvents selection) s

/-- SET_NOTICE_MASK (R174). -/
def execSetNoticeMask (tag : Byte) (mask : List Byte) (s : State) : Host.Outcome State Fault Refusal :=
  request tag (.setNoticeMask mask) (ownSetNoticeMask mask) s

/-! ### Resets -/

/-- The pins TRBn as last seen, and the far tones last measured, which a reset does not change. -/
def PerPair.keepInputs (old new : PerPair PairState) : PerPair PairState where
  p1 := { new.p1 with inputs := old.p1.inputs }
  p2 := { new.p2 with inputs := old.p2.inputs }
  p3 := { new.p3 with inputs := old.p3.inputs }
  p4 := { new.p4 with inputs := old.p4.inputs }

/-- Every block at its reset value, the Timebase, the rate and the end setting kept (R177). -/
def State.softReset (s : State) : State :=
  { State.reset with
    pending := s.pending
    rate1 := s.rate1
    rate0 := s.rate0
    endSetting := s.endSetting
    time := s.time
    pairs := PerPair.keepInputs s.pairs State.reset.pairs }

/-- The reset of a RESET request whose reply has been sent (R177). -/
def State.resetEffect (s : State) : State := if s.port.resetPhase = .due then s.softReset else s

/-- RESET_TAKES_EFFECT (R177). -/
def execResetTakesEffect (s : State) : Host.Outcome State Fault Refusal := live s State.resetEffect

/-- POWER_ON_RESET: the pins sampled, every block at its power-on value (R178). -/
def execPowerOnReset (rate1 rate0 : Bool) (endSel : EndSetting) (s : State) : Host.Outcome State Fault Refusal :=
  .next
    { State.reset with
      pending := s.pending
      rate1 := rate1
      rate0 := rate0
      endSetting := endSel
      pairs := PerPair.keepInputs s.pairs State.reset.pairs }

/-- RESET_PIN_LOW: the part is held in reset and a frame being sent stops at once (R178). -/
def execResetPinLow (s : State) : Host.Outcome State Fault Refusal :=
  .next { s with inReset := true, port := { s.port with tx := .idle } }

/-! ### The frame receiver -/

/-- What the bytes from a start byte on are (R168, R169). -/
inductive Assembly where
  | incomplete
  | bad
  | good (f : Frame) (used : Nat)
  deriving DecidableEq, Repr

/-- A whole frame of a valid LEN is checked (R168, R182): `bs` are the bytes after the start byte. -/
def assembleBody (len : Nat) (bs : List Byte) : Assembly :=
  if bs.length < len + 4 then .incomplete
  else if (bs.drop (len + 2)).take 2 = be16 (crc16 (bs.take (len + 2))) then
    match bs.drop 2 with
    | typ :: tag :: rest => .good ⟨typ, tag, rest.take (len - 2)⟩ (len + 5)
    | _ => .incomplete
  else .bad

/-- The bytes after a start byte, read as LEN, TYPE, TAG, payload and CRC (R168, R169). -/
def assemble (bs : List Byte) : Assembly :=
  match bs with
  | hi :: lo :: _ =>
    let len := (half hi lo).toNat
    if len < 2 ∨ 1026 < len then .bad else assembleBody len bs
  | _ => .incomplete

/-- A frame discarded: FRAME ERROR, and an IDLE transmitter begins the notice that this makes pending (R169, R172). -/
def State.discardFrame (s : State) : State := (s.setPartFlag .frameError).transmit

/-- A good frame joins the request queue, is taken when it may be, and an IDLE transmitter begins what is then due
(R170 to R172). -/
def State.completeFrame (s : State) (f : Frame) : State := (s.joinRequests f).takeRequests.transmit

/-- Received bytes are taken in order: bytes before a start byte are dropped, a discarded frame sets FRAME ERROR and the
bytes after its start byte are taken again, a good frame is completed, and an incomplete one is held until its age
reaches 1024 (R168 to R172). At most `fuel` bytes start an attempt. What falls together is taken in this order, the
discard and what it makes the transmitter begin before the retaken bytes: DEDUCED, log entry 27. -/
def State.receive : Nat → List HeldByte → State → State
  | fuel + 1, b :: rest, s =>
    if b.byte ≠ 0xA5 then receive fuel rest s
    else
      match assemble (rest.map (·.byte)) with
      | .bad => receive fuel rest s.discardFrame
      | .good f used => receive fuel (rest.drop (used - 1)) (s.completeFrame f)
      | .incomplete =>
        if Config.maxFrameAge ≤ b.age then receive fuel rest s.discardFrame
        else { s with port := { s.port with rx := b :: rest } }
  | _, _, s => { s with port := { s.port with rx := [] } }

/-- The held bytes examined with new ones behind them. -/
def State.rescan (s : State) (new : List HeldByte) : State :=
  State.receive (s.port.rx.length + new.length) (s.port.rx ++ new) s

/-- What the receiver takes of characters that have just arrived: the 8 data bits of each, whether or not its stop bit
reads correctly (R167, R168). -/
def fresh (characters : List Character) : List HeldByte := characters.map fun c => ⟨c.data, 0⟩

/-- FRAME_RECEIVED: characters received on RXD; a frame already over its age is discarded first (R167 to R170). -/
def execFrameReceived (characters : List Character) (s : State) : Host.Outcome State Fault Refusal :=
  live s fun s => (s.rescan []).rescan (fresh characters)

/-- Whether the frame being assembled has reached its age limit (R168). -/
def State.frameAgeDue (s : State) : Bool :=
  match s.port.rx with
  | b :: _ => decide (Config.maxFrameAge ≤ b.age)
  | [] => false

/-- FRAME_AGE_EXPIRED: an incomplete frame over its age is discarded and its held bytes are retaken (R168, R169). -/
def execFrameAgeExpired (s : State) : Host.Outcome State Fault Refusal := live s (·.rescan [])

/-! ### The serial line (R167) -/

/-- The serial rate in baud (R167). -/
def State.baud (s : State) : Nat := 115200 * 2 ^ (2 * s.rate1.toNat + s.rate0.toNat)

/-- The whole bit times that have passed in a number of REFCLK cycles. A bit time is no whole number of cycles: a bit
begins with the first cycle at or after its time. DESIGN CHOICE: log entry 33. -/
def State.bitTimes (s : State) (cycles : Nat) : Nat := cycles * s.baud / Config.cyclesPerSecond

/-- What stands on TXD in a bit time. -/
inductive SerialBit where
  | idle
  | start
  | data (value : Bool)
  | stop
  deriving DecidableEq, Repr

/-- The character of a byte: a start bit, 8 data bits with the least significant first, 1 stop bit (R167). -/
def characterBits (b : Byte) : List SerialBit :=
  .start :: (List.range 8).map (fun i => .data (b.getLsbD i)) ++ [.stop]

/-- The characters of a frame, back to back (R167). -/
def frameBits (f : Frame) : List SerialBit := f.wire.flatMap characterBits

/-- The TXD pin: the bit of the frame being sent that its time has come to, idle between frames (R167, R178). -/
def State.txd (s : State) : SerialBit :=
  match s.port.tx with
  | .sending _ f n => (frameBits f).getD (s.bitTimes n) .idle
  | .idle => .idle

/-! ### The transmitter -/

/-- The last byte of a frame has gone: a sent reply leaves the reply queue, and with the RESET reply the reset becomes
due; a sent supervisory-result notice removes its entry (R172, R133, R177). -/
def State.frameSent (s : State) (kind : SentKind) : State :=
  let s := { s with port := { s.port with tx := .idle } }
  match kind with
  | .reply =>
    let rest := s.port.replies.drop 1
    { s with port := { s.port with
        replies := rest
        resetPhase := if s.port.resetPhase = .replyQueued ∧ rest = [] then .due else s.port.resetPhase } }
  | .eventNotice => s
  | .resultNotice => { s with queue := dropFirst QueueEntry.noticeSending s.queue }

/-- A frame ends, the next one is chosen, and waiting requests are taken (R172, R171). -/
def State.transmitEnd (s : State) : State :=
  match s.port.tx with
  | .sending kind _ _ => (s.frameSent kind).transmit.takeRequests
  | .idle => s

/-- TRANSMIT_FRAME_END (R172). -/
def execTransmitFrameEnd (s : State) : Host.Outcome State Fault Refusal := live s State.transmitEnd

/-! ### The Timebase -/

/-- A fraction increment: line time advances and so does the age of the bytes held (R179, R168). -/
def State.fractionIncrement (s : State) : State :=
  { s with
    time := s.time.increment
    port := { s.port with rx := s.port.rx.map fun b => { b with age := b.age + 1 } } }

/-- TIMEBASE_FRACTION_INCREMENT (R179). -/
def execTimebaseFractionIncrement (s : State) : Host.Outcome State Fault Refusal := live s State.fractionIncrement

end Sys2Proof.Machine
end

