-- ==== Sys2Proof/Machine/Clock.lean ====
section
/-! DEFINITION. What happens with time: the event that is due in a state, and one cycle of REFCLK. The step takes them
when no command waits. DESIGN CHOICE: log entry 2. -/

namespace Sys2Proof.Machine

/-! ### Events that are due -/

/-- Whether the last bit of the frame being sent has gone (R167, R172): a frame has seven bytes beside its payload
(R168), ten bits each. -/
def State.frameSentDue (s : State) : Bool :=
  match s.port.tx with
  | .sending _ f n => decide ((f.payload.length + 7) * 10 ≤ s.bitTimes n)
  | .idle => false

/-- The event of the exchange in flight that is due (R121 to R123). -/
def State.flightEvent (s : State) : Option Instr :=
  match s.flight with
  | some e =>
    match e.state with
    | .inFlight c (.transmitting k n compared stopAt) =>
      if compared then
        if c.symbolCycles ≤ n then
          if stopAt = some k then some .driveErrorStop
          else if k = 66 ∧ stopAt = none then some .commandFrameEnd else none
        else none
      else if c.symbolCycles / 2 ≤ n then some (.toneSymbolMidpoint (s.pair e.pair).inputs.readback) else none
    | .inFlight _ (.replyDue _) => if (s.pair e.pair).atBoundary then some .receptionStart else none
    | _ => none
  | none => none

/-- Whether a claim burst has lasted the claim burst time (R6, R154). -/
def PairState.claimBurstDue (q : PairState) : Bool :=
  match q.role, q.tone.use with
  | .claiming _ .burst, .claimBurst n => decide (q.config.burstTime * Config.cyclesPerMs ≤ n)
  | _, _ => false

/-- Whether a keep burst has lasted the claim burst time (R6, R7). -/
def PairState.keepBurstDue (q : PairState) : Bool :=
  match q.tone.use with
  | .keepBurst n => decide (q.config.burstTime * Config.cyclesPerMs ≤ n)
  | _ => false

/-- Whether a millisecond of the chip clock has passed (R25). -/
def PairState.millisecondDue (q : PairState) : Bool :=
  decide (q.role.name ≠ .parked) && decide (Config.cyclesPerMs ≤ q.clock.msCycles)

/-- Whether the chip in progress has lasted its cycles (R1). -/
def PairState.chipDue (q : PairState) : Bool :=
  decide (q.role.name ≠ .parked) && decide (chipCycles q.config.chipCode ≤ q.clock.chipCycles)

/-- The event of a pair that is due, the first of this order. -/
def State.pairEvent (s : State) (p : Pair) : Option Instr :=
  let q := s.pair p
  if q.lossDue then some (.returnLossDeclared p)
  else if s.replyBitDue p then some .replyBit
  else if q.blockDue then some (.farActivityBlock p)
  else if q.millisecondDue then some (.farToneMillisecond p q.inputs.f3 q.inputs.f4)
  else if q.boundaryDue then some (.periodBoundary p)
  else if s.bank.passEndDue p then some (.passEnd p)
  else if q.completionDue then some (.sweepCompletion p)
  else if s.passBeginDue p then some (.passBegin p)
  else if q.claimBurstDue then some (.claimBurstEnd p)
  else if q.keepBurstDue then some (.keepBurstEnd p)
  else if q.claimWonDue then some (.claimWon p)
  else if q.claimTimeoutDue then some (.claimTimeout p)
  else if q.collisionDue then some (.collision p)
  else if q.chipDue then some (.returnSample p none)
  else none

/-- The event that is due: a reset, the receiver, the transmitter, the exchange in flight, then the pairs in number
order. -/
def State.nextEvent (s : State) : Option Instr :=
  if s.port.resetPhase = .due then some .resetTakesEffect
  else if s.frameAgeDue then some .frameAgeExpired
  else if s.frameSentDue then some .transmitFrameEnd
  else if s.flightEvent.isSome then s.flightEvent
  else allPairs.findSome? s.pairEvent

/-! ### One cycle of REFCLK -/

/-- The chip clock (R1, R25); a parked pair's is stopped. -/
def ChipClock.tick (c : ChipClock) : ChipClock := { c with chipCycles := c.chipCycles + 1, msCycles := c.msCycles + 1 }

/-- The timers of a role state (R154, R155, R163). -/
def Role.tick : Role → Role
  | .claiming t (.counting n) => .claiming (t + 1) (.counting (n + 1))
  | .claiming t quiet => .claiming (t + 1) quiet
  | .holder (.counting n) => .holder (.counting (n + 1))
  | r => r

/-- The cycles of a burst, and those left of a last symbol (R6, R130). -/
def ToneUse.tick : ToneUse → ToneUse
  | .claimBurst n => .claimBurst (n + 1)
  | .keepBurst n => .keepBurst (n + 1)
  | .lastSymbol t left => .lastSymbol t (left - 1)
  | u => u

/-- One cycle of a pair. -/
def PairState.tick (q : PairState) : PairState :=
  { q with
    clock := if q.role.name = .parked then q.clock else q.clock.tick
    role := q.role.tick
    tone := { q.tone with use := q.tone.use.tick } }

/-- One cycle of the entry in flight, at whose end the Timebase stands at `now`: a symbol that has had its midpoint and
its cycles is followed by the next one (R119), and T0 is stamped in the cycle in which it comes (R122). -/
def QueueEntry.tick (now : Timebase) (e : QueueEntry) : QueueEntry :=
  match e.state with
  | .inFlight c (.transmitting k n compared stopAt) =>
    if compared && !lastOfFrame k stopAt && decide (c.symbolCycles ≤ n + 1) then
      e.withPhase (.transmitting (k + 1) 0 false stopAt)
    else e.withPhase (.transmitting k (n + 1) compared stopAt)
  | .inFlight c (.awaitingReply frameEnd left) =>
    e.withPhase (if left ≤ 1 then .replyDue (c.stampReply e.command frameEnd now) else .awaitingReply frameEnd (left - 1))
  | _ => e

/-- One cycle of the transmitter (R167). -/
def Transmitter.tick : Transmitter → Transmitter
  | .sending k f n => .sending k f (n + 1)
  | .idle => .idle

/-- Whether the symbol that a return loss let finish has ended (R130). -/
def PairState.symbolOver (q : PairState) : Bool :=
  match q.tone.use with
  | .lastSymbol _ left => decide (left = 0)
  | _ => false

/-- The tone field of a pair frees when such a symbol has ended (R130). DESIGN CHOICE: log entry 16. -/
def State.endLastSymbol (s : State) (p : Pair) : State :=
  if (s.pair p).symbolOver then s.releaseTone p else s

/-- The Timebase's cycle: the count rises, and where it would pass 15,624 a fraction increment comes about (R179). -/
def State.tickTime (s : State) : State :=
  if s.time.cycles + 1 < Config.cyclesPerFraction then { s with time := { s.time with cycles := s.time.cycles + 1 } }
  else s.fractionIncrement

/-- One REFCLK cycle of the whole part (R179). -/
def State.tick (s : State) : State :=
  let t : State := { s.tickTime with
    pairs := ⟨s.pairs.p1.tick, s.pairs.p2.tick, s.pairs.p3.tick, s.pairs.p4.tick⟩
    queue := s.queue.map (QueueEntry.tick s.tickTime.time)
    port := { s.tickTime.port with tx := s.port.tx.tick } }
  (allPairs.foldl State.endLastSymbol t).transmit

end Sys2Proof.Machine
end

