-- ==== Sys2Proof/Machine/Dispatch.lean ====
section
/-! DEFINITION. The dispatch of every command to its meaning. -/

namespace Sys2Proof.Machine

def exec (i : Instr) (s : State) : Host.Outcome State Fault Refusal :=
  match i with
  | .identify tag => Sys2Proof.Machine.execIdentify tag s
  | .reset tag => Sys2Proof.Machine.execReset tag s
  | .resetTakesEffect => Sys2Proof.Machine.execResetTakesEffect s
  | .powerOnReset rate1 rate0 endSel => Sys2Proof.Machine.execPowerOnReset rate1 rate0 endSel s
  | .setTime tag seconds fraction => Sys2Proof.Machine.execSetTime tag seconds fraction s
  | .adjustTime tag offset => Sys2Proof.Machine.execAdjustTime tag offset s
  | .readTime tag => Sys2Proof.Machine.execReadTime tag s
  | .readEvents tag => Sys2Proof.Machine.execReadEvents tag s
  | .clearEvents tag selection => Sys2Proof.Machine.execClearEvents tag selection s
  | .setNoticeMask tag mask => Sys2Proof.Machine.execSetNoticeMask tag mask s
  | .configurePair tag pair params => Sys2Proof.Machine.execConfigurePair tag pair params s
  | .readPairConfig tag pair => Sys2Proof.Machine.execReadPairConfig tag pair s
  | .setPairModeDisabled tag pair => Sys2Proof.Machine.execSetPairModeDisabled tag pair s
  | .setPairModeEnabled tag pair => Sys2Proof.Machine.execSetPairModeEnabled tag pair s
  | .setPairModeSynthetic tag pair => Sys2Proof.Machine.execSetPairModeSynthetic tag pair s
  | .injectFault tag pair first factor => Sys2Proof.Machine.execInjectFault tag pair first factor s
  | .takeRole tag pair => Sys2Proof.Machine.execTakeRole tag pair s
  | .releaseRole tag pair mode => Sys2Proof.Machine.execReleaseRole tag pair mode s
  | .readRole tag pair => Sys2Proof.Machine.execReadRole tag pair s
  | .loadRepeaters tag pair first records => Sys2Proof.Machine.execLoadRepeaters tag pair first records s
  | .editRepeater tag pair index changes low high presence baseline excluded => Sys2Proof.Machine.execEditRepeater tag pair index changes low high presence baseline excluded s
  | .readRepeater tag pair index => Sys2Proof.Machine.execReadRepeater tag pair index s
  | .readResults tag pair refresh fromIndex count => Sys2Proof.Machine.execReadResults tag pair refresh fromIndex count s
  | .readTrace tag pair index => Sys2Proof.Machine.execReadTrace tag pair index s
  | .learnBaseline tag pair target mode => Sys2Proof.Machine.execLearnBaseline tag pair target mode s
  | .abortLearn tag pair => Sys2Proof.Machine.execAbortLearn tag pair s
  | .readLearning tag pair => Sys2Proof.Machine.execReadLearning tag pair s
  | .listFaults tag selector fromId => Sys2Proof.Machine.execListFaults tag selector fromId s
  | .readFault tag id => Sys2Proof.Machine.execReadFault tag id s
  | .purgeFault tag id => Sys2Proof.Machine.execPurgeFault tag id s
  | .purgeFaultAllCleared tag selector => Sys2Proof.Machine.execPurgeFaultAllCleared tag selector s
  | .isolate tag id action => Sys2Proof.Machine.execIsolate tag id action s
  | .releaseIsolation tag id => Sys2Proof.Machine.execReleaseIsolation tag id s
  | .supervise tag pair index command argument => Sys2Proof.Machine.execSupervise tag pair index command argument s
  | .readQueue tag => Sys2Proof.Machine.execReadQueue tag s
  | .requestUnknownType tag typ payload => Sys2Proof.Machine.execRequestUnknownType tag typ payload s
  | .frameReceived characters => Sys2Proof.Machine.execFrameReceived characters s
  | .frameAgeExpired => Sys2Proof.Machine.execFrameAgeExpired s
  | .transmitFrameEnd => Sys2Proof.Machine.execTransmitFrameEnd s
  | .timebaseFractionIncrement => Sys2Proof.Machine.execTimebaseFractionIncrement s
  | .returnSample pair strobe => Sys2Proof.Machine.execReturnSample pair strobe s
  | .returnLossDeclared pair => Sys2Proof.Machine.execReturnLossDeclared pair s
  | .periodBoundary pair => Sys2Proof.Machine.execPeriodBoundary pair s
  | .farActivityBlock pair => Sys2Proof.Machine.execFarActivityBlock pair s
  | .farToneMillisecond pair f3 f4 => Sys2Proof.Machine.execFarToneMillisecond pair f3 f4 s
  | .passBegin pair => Sys2Proof.Machine.execPassBegin pair s
  | .passEnd pair => Sys2Proof.Machine.execPassEnd pair s
  | .sweepCompletion pair => Sys2Proof.Machine.execSweepCompletion pair s
  | .commandFrameEnd => Sys2Proof.Machine.execCommandFrameEnd s
  | .driveErrorStop => Sys2Proof.Machine.execDriveErrorStop s
  | .receptionStart => Sys2Proof.Machine.execReceptionStart s
  | .replyBit => Sys2Proof.Machine.execReplyBit s
  | .claimBurstEnd pair => Sys2Proof.Machine.execClaimBurstEnd pair s
  | .keepBurstEnd pair => Sys2Proof.Machine.execKeepBurstEnd pair s
  | .claimWon pair => Sys2Proof.Machine.execClaimWon pair s
  | .claimTimeout pair => Sys2Proof.Machine.execClaimTimeout pair s
  | .collision pair => Sys2Proof.Machine.execCollision pair s
  | .resetPinLow => Sys2Proof.Machine.execResetPinLow s
  | .toneSymbolMidpoint readback => Sys2Proof.Machine.execToneSymbolMidpoint readback s

end Sys2Proof.Machine
end

