-- ==== Sys2Proof/Machine/Step.lean ====
section
/-! DEFINITION. One step: the command at the front of the queue, or what time brings when none waits. -/

namespace Sys2Proof.Machine

/-- What time brings: nothing while the part is held in reset, else the event that is due, else one REFCLK cycle. DESIGN
CHOICE: log entry 2. -/
def idle (s : State) : Host.Outcome State Fault Refusal :=
  if s.inReset then .next s
  else
    match s.nextEvent with
    | some e => exec e s
    | none => .next s.tick

/-- The command at the front of the queue is executed on the state with the queue's rest. -/
def step (s : State) : Host.Outcome State Fault Refusal :=
  match s.pending with
  | c :: rest => exec c { s with pending := rest }
  | [] => idle s

/-- The state with the command that a word spells at the front of its queue. No row of the table gives bits, so no word
spells one. -/
def State.withFetchWord (s : State) (nbits w : Nat) : State :=
  match Sys2Proof.decodeTableWord nbits w with
  | some i => { s with pending := i :: s.pending }
  | none => s

end Sys2Proof.Machine
end

