-- ==== Sys2Proof/WellFormed.lean ====
section
/-! DEFINITION. When a command is well formed: its operands could reach the part as the spec describes them. -/

namespace Sys2Proof

/-- The lengths that R186 fixes for the variable parts of a request, the payload bound of a host frame, the
TYPE or length fault that REQUEST_UNKNOWN_TYPE stands for, and the largest mean amplitude that 12-bit samples
can have (R18, R25). -/
def Instr.wellFormed : Instr → Bool
  | .clearEvents _ selection => selection.length == 9
  | .setNoticeMask _ mask => mask.length == 12
  | .configurePair _ _ params => params.length == 32
  | .loadRepeaters _ _ _ records => decide (records.length ≤ 16)
  | .requestUnknownType tag typ payload =>
    decide (payload.length ≤ 1024) &&
      (decide (Frame.parse ⟨typ, tag, payload⟩ = .unknownType) ||
        decide (Frame.parse ⟨typ, tag, payload⟩ = .badLength))
  | .frameReceived characters => !characters.isEmpty
  | .farToneMillisecond _ f3 f4 => decide (f3 ≤ 2048) && decide (f4 ≤ 2048)
  | _ => true

end Sys2Proof
end

