-- ==== Sys2Proof/Safety.lean ====
section
/-! DEFINITION. What counts as a sound state of the part: the invariants that every step keeps, and the words in which
the statements are written. -/

namespace Sys2Proof.Machine

/-! ### Words of the statements -/

/-- The part is running, no RESET waits, no request waits, and the reply queue has room: a host request that arrives is
taken at once (R171). -/
structure State.Ready (s : State) : Prop where
  running : s.inReset = false
  noReset : s.port.resetPhase = .inactive
  noRequest : s.port.requests = []
  room : s.port.replies.length < 4

/-- The state once a reply frame has joined the reply queue and an IDLE transmitter has chosen its next frame (R171,
R172). -/
def State.replied (s : State) (typ tag : Byte) (payload : List Byte) : State :=
  let joined : State :=
    { s with port := { s.port with replies := s.port.replies ++ [(⟨typ, tag, payload⟩ : Frame)] } }
  joined.transmit

/-- The byte that names a pair in a request. -/
def pairByte (p : Pair) : Byte := BitVec.ofNat 8 (pairNumber p)

/-- Two states agree on what a pair is to its own rules, whatever the bank or the tone channel does for it. -/
structure PairKept (q q' : PairState) : Prop where
  config : q'.config = q.config
  role : q'.role = q.role
  lastRole : q'.lastRole = q.lastRole
  clock : q'.clock = q.clock
  probeOn : q'.probeOn = q.probeOn
  inputs : q'.inputs = q.inputs
  det : q'.det = q.det
  injected : q'.injected = q.injected
  source : q'.source = q.source
  records : q'.records = q.records
  sweepNumber : q'.sweepNumber = q.sweepNumber
  published : q'.published = q.published
  readout : q'.readout = q.readout
  cursor : q'.cursor = q.cursor
  learn : q'.learn = q.learn
  hold : q'.hold = q.hold
  lastLearn : q'.lastLearn = q.lastLearn

/-- A fault record put in the place of the record with its id. -/
def State.putFault (s : State) (r : FaultRecord) : State :=
  { s with faults := s.faults.map fun x => if x.id = r.id then r else x }

/-- The first id from `id` on, counting up through 1..65535 and wrapping, that no record of a list holds (R82). -/
def FirstFreeFrom (rs : List FaultRecord) (start id : Nat) : Prop :=
  ∃ k : Nat, k ≤ 32 ∧ id = (start - 1 + k) % 65535 + 1 ∧ (∀ x ∈ rs, x.id ≠ id)
    ∧ ∀ j : Nat, j < k → ∃ x ∈ rs, x.id = (start - 1 + j) % 65535 + 1

/-- The supervisory queue after a pair has lost its role: a WAITING host-origin entry of the pair is DONE with ROLE LOST
and awaits its notice, a WAITING fault-origin one has left, every other entry stands (R128, R131). -/
def queueAfterRoleLoss (p : Pair) (queue : List QueueEntry) : List QueueEntry :=
  queue.filterMap fun e =>
    if e.isWaiting = true ∧ e.pair = p then
      match e.origin with
      | .host _ => some { e with state := .done .roleLost [] false }
      | .fault _ => none
    else some e

/-- Whether role loss of a pair ends a record's sequence: its step waits for room in the queue, or for a WAITING entry
of the pair that names it (R149). -/
def FaultRecord.losesRole (r : FaultRecord) (p : Pair) (queue : List QueueEntry) : Bool :=
  decide (r.state = .acting) && match r.action with
    | none => false
    | some a => match a.step with
      | .waitingForQueue .. => decide (r.pair = p)
      | .querying | .commanding =>
        queue.any fun e => e.isWaiting && decide (e.pair = p) && decide (e.origin = .fault r.id)
      | .verifying _ | .done => false

/-- The fault list after a pair has lost its role: the sequences that this ends leave their records UNRESOLVED with
result ROLE LOST, every other record stands (R147, R149). -/
def faultsAfterRoleLoss (p : Pair) (queue : List QueueEntry) (faults : List FaultRecord) : List FaultRecord :=
  faults.map fun r =>
    if r.losesRole p queue then
      { r with
        state := .unresolved
        action := r.action.map fun a => { a with step := .done, result := .exchange .roleLost } }
    else r

/-- A tone field after a keep order: absorbed by a keep burst running or waiting, started on a free field, held behind
what has asked before it otherwise (R7). -/
def keepOrdered (t : ToneField) : ToneField :=
  match t.use with
  | .keepBurst _ => t
  | .free => if ToneAsker.keepBurst ∈ t.waiting then t else ⟨.keepBurst 0, t.waiting⟩
  | u => if ToneAsker.keepBurst ∈ t.waiting then t else ⟨u, t.waiting ++ [.keepBurst]⟩

/-- A tone field that has been let go: free, or granted to the first that waits (R7). -/
def toneReleased (t : ToneField) : ToneField :=
  match t.waiting with
  | [] => ⟨.free, []⟩
  | .keepBurst :: rest => ⟨.keepBurst 0, rest⟩
  | .commandFrame :: rest => ⟨.commandFrame, rest⟩

/-- A request row as the tag and request it carries. -/
def asRequest : Instr → Option (Byte × Request)
  | .identify t => some (t, .identify)
  | .reset t => some (t, .reset)
  | .setTime t s f => some (t, .setTime s f)
  | .adjustTime t o => some (t, .adjustTime o)
  | .readTime t => some (t, .readTime)
  | .readEvents t => some (t, .readEvents)
  | .clearEvents t sel => some (t, .clearEvents sel)
  | .setNoticeMask t m => some (t, .setNoticeMask m)
  | .configurePair t p ps => some (t, .configurePair p ps)
  | .readPairConfig t p => some (t, .readPairConfig p)
  | .setPairModeDisabled t p => some (t, .setPairMode p 0)
  | .setPairModeEnabled t p => some (t, .setPairMode p 1)
  | .setPairModeSynthetic t p => some (t, .setPairMode p 2)
  | .injectFault t p f q => some (t, .injectFault p f q)
  | .takeRole t p => some (t, .takeRole p)
  | .releaseRole t p m => some (t, .releaseRole p m)
  | .readRole t p => some (t, .readRole p)
  | .loadRepeaters t p f rs => some (t, .loadRepeaters p f rs)
  | .editRepeater t p i c lo hi pr b x => some (t, .editRepeater p i c lo hi pr b x)
  | .readRepeater t p i => some (t, .readRepeater p i)
  | .readResults t p r f c => some (t, .readResults p r f c)
  | .readTrace t p i => some (t, .readTrace p i)
  | .learnBaseline t p n m => some (t, .learnBaseline p n m)
  | .abortLearn t p => some (t, .abortLearn p)
  | .readLearning t p => some (t, .readLearning p)
  | .listFaults t s f => some (t, .listFaults s f)
  | .readFault t i => some (t, .readFault i)
  | .purgeFault t i => some (t, .purgeFault 0 i 0)
  | .purgeFaultAllCleared t s => some (t, .purgeFault 1 0 s)
  | .isolate t i a => some (t, .isolate i a)
  | .releaseIsolation t i => some (t, .releaseIsolation i)
  | .supervise t p i c a => some (t, .supervise p i c a)
  | .readQueue t => some (t, .readQueue)
  | .requestUnknownType .. | .resetTakesEffect | .powerOnReset .. | .frameReceived _ | .frameAgeExpired
  | .transmitFrameEnd | .timebaseFractionIncrement | .returnSample .. | .returnLossDeclared _ | .periodBoundary _
  | .farActivityBlock _ | .farToneMillisecond .. | .passBegin _ | .passEnd _ | .sweepCompletion _ | .commandFrameEnd
  | .driveErrorStop | .receptionStart | .replyBit | .claimBurstEnd _ | .keepBurstEnd _ | .claimWon _ | .claimTimeout _
  | .collision _ | .resetPinLow | .toneSymbolMidpoint _ => none

/-! ### Values after a reset -/

/-- The Message Port after power-on, the reset pin or the RESET request (R168, R170, R173, R174, R177). -/
structure PortIsReset (p : PortState) : Prop where
  hunting : p.rx = []
  requests : p.requests = []
  replies : p.replies = []
  idle : p.tx = .idle
  frameError : p.flags.frameError = false
  portOverrun : p.flags.portOverrun = false
  pairFlags : ∀ (x : Pair) (k : PairFlag), (p.flags.pairs.get x).get k = false
  maskFrameError : p.mask.frameError = true
  maskPortOverrun : p.mask.portOverrun = true
  maskKinds : ∀ k : PairFlag, p.mask.kinds.get k = true
  noNotice : p.noticePending = false
  noReset : p.resetPhase = .inactive

/-- A pair after power-on, the reset pin or the RESET request (R1, R2, R5, R9, R27, R31, R64, R80, R103, R166). -/
structure PairIsReset (q : PairState) : Prop where
  parameters : q.config.toParams = [16, 1, 64, 128, 60, 8, 2, 3, 4, 4, 2, 0, 0, 0, 5, 50, 65536, 1, 256, 4, 64, 200,
    10, 20, 500, 0, 0, 0, 0, 0, 0, 0]
  parked : q.role = .parked
  noRoleEvent : q.lastRole = none
  chip : q.clock.chip = 0
  period : q.clock.period = 0
  toneFree : q.tone = ⟨.free, []⟩
  probeOff : q.probeOn = false
  lossNotDeclared : q.det.lossDeclared = false ∧ q.det.lossRun = 0 ∧ q.det.strong = 0
  farAbsent : q.det.farPresent = false ∧ q.det.disagree = 0 ∧ q.det.blockSum = 0
  armed : q.det.claimTone = ⟨false, 0⟩ ∧ q.det.keepTone = ⟨false, 0⟩
  noInjection : q.injected = none
  noRecords : q.records = []
  noSweep : q.sweep = none
  sweepNumber : q.sweepNumber = 0
  noPublished : q.published = none
  emptyReadout : q.readout = none ∧ q.cursor = 1
  learning : q.learn = .idle ∧ q.hold = false ∧ q.lastLearn = .nothing

/-- Every block but the Timebase and the sampled pins after power-on, the reset pin or the RESET request. -/
structure BlocksReset (s : State) : Prop where
  running : s.inReset = false
  port : PortIsReset s.port
  pairs : ∀ p : Pair, PairIsReset (s.pair p)
  bank : s.bank = .idle
  pointer : s.pointer = .one
  faults : s.faults = [] ∧ s.nextFaultId = 1
  queue : s.queue = []

/-! ### Invariants -/

/-- Line time is legal (R179). -/
def TimeInv (s : State) : Prop := s.time.fraction ≤ 1023 ∧ s.time.cycles ≤ 15624

/-- The request queue and the reply queue hold at most four frames each (R170, R171). -/
def PortInv (s : State) : Prop := s.port.requests.length ≤ 4 ∧ s.port.replies.length ≤ 4

/-- Whether an exchange in flight agrees with its pair's role: HOLDER, or YIELDING with the exchange outstanding. -/
def exchangeRole : Role → Bool
  | .holder _ => true
  | .yielding _ _ exchange => exchange
  | _ => false

/-- The supervisory queue (R113): at most 8 entries, at most one in flight, and the pair of an exchange in flight is
HOLDER, or YIELDING with its guard waiting for the exchange. -/
structure SupervisoryInv (s : State) : Prop where
  room : s.queue.length ≤ 8
  single : (s.queue.filter QueueEntry.isInFlight).length ≤ 1
  held : ∀ e ∈ s.queue, e.isInFlight = true → exchangeRole (s.pair e.pair).role = true

/-- The role states in which a pair sends nothing (R5, R6). -/
def silentRole (r : RoleName) : Bool :=
  match r with
  | .parked | .listen | .synthetic => true
  | .claiming | .holder | .yielding => false

/-- A pair in PARKED, LISTEN or LOCAL has no driver on its tone field and none waiting (R6). -/
def ToneInv (s : State) : Prop := ∀ p : Pair, silentRole (s.pair p).role.name = true → (s.pair p).tone = ⟨.free, []⟩

/-- Whether a pair's sweep has its pass in the bank. -/
def PairState.inBank (q : PairState) : Bool :=
  match q.sweep with
  | some w => decide (w.stage = .inBank)
  | none => false

/-- Whether a pair's role agrees with its sweep status: a waiting pass only in HOLDER and LOCAL; a pass in the bank, or
a completion that is due, only there and in YIELDING with its guard waiting for the pass; NO SWEEP in PARKED, LISTEN and
CLAIMING (R65, R66, R71 to R73, R161). -/
def PairState.sweepFitsRole (q : PairState) : Bool :=
  match q.role with
  | .holder _ | .synthetic => true
  | .yielding _ pass _ => q.sweep.isNone || (pass && !q.passReady)
  | .parked | .listen | .claiming .. => q.sweep.isNone

/-- The bank and the sweeps (R65, R69): the bank holds the pass of a pair exactly while the pair's sweep says so, and
every pair's sweep status agrees with its role. -/
structure SweepInv (s : State) : Prop where
  bank : ∀ p : Pair, s.bank.holder = some p ↔ (s.pair p).inBank = true
  roles : ∀ p : Pair, (s.pair p).sweepFitsRole = true

/-- The fault list (R81, R82): at most 32 records, ids 1..65535, no id twice. -/
structure FaultListInv (s : State) : Prop where
  room : s.faults.length ≤ 32
  ids : ∀ r ∈ s.faults, 1 ≤ r.id ∧ r.id ≤ 65535
  distinct : (s.faults.map (·.id)).Nodup
  next : 1 ≤ s.nextFaultId ∧ s.nextFaultId ≤ 65535

/-- Whether an action part agrees with its record's state: step DONE and a result outside ACTING, another step and
result PENDING in ACTING (R135). -/
def FaultRecord.actionFits (r : FaultRecord) : Bool :=
  match r.action with
  | none => decide (r.state ≠ .acting)
  | some a => decide ((r.state = .acting) ↔ (a.result = .pending)) && decide ((r.state = .acting) ↔ (a.step ≠ .done))

/-- Every fault record's action part agrees with its state (R135). -/
def FaultActionInv (s : State) : Prop := ∀ r ∈ s.faults, r.actionFits = true

/-- A pending edit, where there is one, lies in a range. -/
def pendingWithin (lo hi : Nat) : Option Nat → Bool
  | some v => inRange v lo hi
  | none => true

/-- The miss count and the remembered offset that a lock state goes with, and no pending track sign outside LOCKED (R57,
R58). -/
def RepeaterRecord.lockFits (r : RepeaterRecord) : Bool :=
  match r.lock with
  | .search => decide (r.missCount = 0) && r.remembered.isNone && decide (r.trackSign = .unset)
  | .candidate => decide (r.missCount = 0) && r.remembered.isSome && decide (r.trackSign = .unset)
  | .locked => decide (r.missCount = 0) && r.remembered.isNone
  | .fading => inRange r.missCount 1 2 && r.remembered.isNone && decide (r.trackSign = .unset)
  | .lost => decide (r.missCount = 3) && r.remembered.isNone && decide (r.trackSign = .unset)

/-- A record's fields are in the ranges that loading and editing admit, its centre is within the drift limit of its
nominal lag, its window begins at a lag of at least 0, its lock state agrees with its counts, and its history holds at
most 16 known outcomes (R44, R47, R57, R58, R60, R62). -/
structure RecordInv (r : RepeaterRecord) : Prop where
  address : r.address ≤ 4094
  window : r.halfWidth ≤ 15 ∧ r.driftLimit + r.halfWidth ≤ r.nominalLag
  baseline : 1 ≤ r.baseline ∧ r.baseline ≤ 32767
  ratios : 1 ≤ r.lowRatio ∧ r.lowRatio ≤ 1023 ∧ 1025 ≤ r.highRatio ∧ r.highRatio ≤ 65534
  presence : pendingWithin 1 32767 r.presence = true
  centre : r.nominalLag ≤ r.centre + r.driftLimit ∧ r.centre ≤ r.nominalLag + r.driftLimit
  lock : r.lockFits = true
  history : r.history.length ≤ 16 ∧ EchoOutcome.unknown ∉ r.history
  edits : pendingWithin 1 1023 r.edits.low = true ∧ pendingWithin 1025 65534 r.edits.high = true
    ∧ pendingWithin 1 32767 r.edits.baseline = true ∧ pendingWithin 1 32767 (r.edits.presence.getD none) = true

/-- A pair's list and configuration (R11, R44, R45): indices 1..n in order with n at most 160, nominal lags rising,
every record sound, and the configuration passing R11 against the list. -/
structure ListInv (q : PairState) : Prop where
  room : q.records.length ≤ 160
  indices : q.records.map (·.index) = (List.range q.records.length).map (· + 1)
  lags : (q.records.map (·.nominalLag)).Pairwise (· < ·)
  records : ∀ r ∈ q.records, RecordInv r
  config : firstFailing q.config.toParams q.records = none

end Sys2Proof.Machine
end

