-- ==== Sys2Proof/Certificates/Slice0/Obligations.lean ====
section
/-! DEFINITION. The statements for the provers. Each docstring names the rules of spec/ it formalises. -/

open Sys2Proof Sys2Proof.Machine

/-! ### The step and the frames -/

/-- A step takes the command at the front of the queue and executes it on the state with the queue's rest. -/
def Obligations.StepRunsFrontCommand : Prop :=
  ∀ (c : Instr) (rest : List Instr) (s : State),
    step { s with pending := c :: rest } = exec c { s with pending := rest }

/-- No command stops the part: every command answers a next state in every state. The manual names no state in which the
part stops; that a command whose occasion does not stand leaves the state is the model's choice: log entry 3. -/
def Obligations.EveryCommandAnswersNext : Prop :=
  ∀ (c : Instr) (s : State), ∃ t, exec c s = .next t

/-- The reader of frames gives back the request that a frame was formed from: TYPE and payload of R183 and R186; and a
flag selection and a notice mask are read back from the bytes that carry them (R191). -/
def Obligations.FrameParsesToItsRequest : Prop :=
  (∀ (tag : Byte) (r : Request), r.fits = true → (r.frame tag).parse = .request r)
  ∧ ((∀ f : EventFlags, selectionOf f.encode = some f) ∧ ∀ m : NoticeMask, maskOf m.encode = some m)

/-- A well-formed request row does what receiving the characters of its frame does, whatever their stop bits (R167,
R168, R170, R171, R182). That a request row stands for its frame's arrival is the model's choice: log entry 1. -/
def Obligations.RequestRowIsItsFrameReceived : Prop :=
  ∀ (c : Instr) (tag : Byte) (r : Request) (cs : List Character) (s : State),
    asRequest c = some (tag, r) → c.wellFormed = true → s.port.rx = [] →
      (s.mayTake = true → s.port.requests = []) → cs.map (·.data) = (r.frame tag).wire →
        exec (.frameReceived cs) s = exec c s

/-! ### Resets -/

/-- POWER_ON_RESET from any state: the pins sampled, the Timebase at 0, every block at its power-on value (R178). -/
def Obligations.PowerOnResetValues : Prop :=
  ∀ (rate1 rate0 : Bool) (endSel : EndSetting) (s : State),
    ∃ t, exec (.powerOnReset rate1 rate0 endSel) s = .next t ∧ t.rate1 = rate1 ∧ t.rate0 = rate0
      ∧ t.endSetting = endSel ∧ t.time = ⟨0, 0, 0⟩ ∧ BlocksReset t ∧ t.pending = s.pending
      ∧ ∀ p : Pair, t.driveWord p = ⟨.off, 0, .off⟩

/-- RESET queues its reply and stops the taking of requests; a frame that arrives meanwhile joins the request queue;
once the reply has been sent every block takes its reset values, the Timebase, the rate and the end setting being kept
(R177). That the end of the RESET reply leaves the reset due, to be taken by RESET_TAKES_EFFECT, and that between the
two nothing is sent and a frame that arrives still joins the queue, is the model's reading: log entry 18, DEDUCED. -/
def Obligations.ResetRequestTakesEffect : Prop :=
  (∀ (tag : Byte) (s : State), s.Ready →
    exec (.reset tag) s = .next
      (({ s with port := { s.port with resetPhase := .replyQueued } } : State).replied 0x82 tag [0]))
  ∧ (∀ (tag : Byte) (s : State), s.inReset = false → s.port.resetPhase ≠ .inactive → s.port.requests.length < 4 →
    exec (.readTime tag) s = .next
      ({ s with port := { s.port with requests := s.port.requests ++ [⟨0x05, tag, []⟩] } } : State).transmit)
  ∧ (∀ (f : Frame) (n : Nat) (s : State), s.inReset = false → s.port.tx = .sending .reply f n →
      s.port.replies.length = 1 → s.port.resetPhase = .replyQueued →
        exec .transmitFrameEnd s = .next
          { s with port := { s.port with tx := .idle, replies := [], resetPhase := .due } })
  ∧ ∀ s : State, s.inReset = false → s.port.resetPhase = .due →
      ∃ t, exec .resetTakesEffect s = .next t ∧ BlocksReset t ∧ t.time = s.time ∧ t.rate1 = s.rate1
        ∧ t.rate0 = s.rate0 ∧ t.endSetting = s.endSetting ∧ t.pending = s.pending

/-- RESET_PIN_LOW stops the frame being sent and holds the part in reset, where only POWER_ON_RESET acts (R178). That
every other command waits outside the part is the model's choice: log entry 10. -/
def Obligations.ResetPinHoldsThePart : Prop :=
  (∀ s : State, exec .resetPinLow s = .next { s with inReset := true, port := { s.port with tx := .idle } })
  ∧ ∀ (c : Instr) (s : State), s.inReset = true → c ≠ .resetPinLow → (∀ r1 r0 e, c ≠ .powerOnReset r1 r0 e) →
      exec c s = .next s

/-! ### Requests of the part -/

/-- IDENTIFY, READ_TIME, READ_EVENTS and READ_QUEUE answer OK with the data of R176, R180, R175 and R132, and change
nothing else. The T0 and the deadline that READ_QUEUE shows before T0 has come are those that the Timebase, as it
stands, leads to: log entry 23, DESIGN CHOICE; the place of a one-byte acknowledgement in the data field: log entry 30,
DESIGN CHOICE. Bits that name no item in what is sent are 0: log entry 31, DESIGN CHOICE. -/
def Obligations.PartReadsAnswerAndKeep : Prop :=
  ∀ (tag : Byte) (s : State), s.Ready →
    exec (.identify tag) s = .next (s.replied 0x81 tag ([(0 : Byte), 0x41, 0x60, 0x01, endCode s.endSetting,
        BitVec.ofNat 8 (2 * s.rate1.toNat + s.rate0.toNat), 4, 160, 32, 8, 4, 4, 16]))
    ∧ exec (.readTime tag) s = .next (s.replied 0x85 tag (0 :: (be32 s.time.seconds ++ u16 s.time.fraction)))
    ∧ exec (.readEvents tag) s = .next (s.replied 0x86 tag (0 :: (s.port.flags.encode ++ s.port.mask.encode
        ++ [boolCode s.port.noticePending, boolCode s.attn] ++ be32 s.time.seconds ++ u16 s.time.fraction)))
    ∧ exec (.readQueue tag) s = .next (s.replied 0xB9 tag (0 :: (u8 s.queue.length ++ encodeQueue s.time 1 s.queue)))

/-- Line time in units of 1/1024 s. -/
def lineTicks (t : Timebase) : Int := 1024 * (t.seconds.toNat : Int) + t.fraction

/-- SET_TIME sets seconds and fraction and zeroes the cycle count, a fraction above 1023 being refused (R180).
ADJUST_TIME moves line time by its signed offset in fractions, modulo 2^32 seconds, and keeps the cycle count; an offset
outside -1023..1023 is refused (R181). -/
def Obligations.TimeIsSetAndAdjusted : Prop :=
  (∀ (tag : Byte) (seconds : Word) (fraction : Option Half) (s : State), s.Ready →
    exec (.setTime tag seconds fraction) s =
      if ((fraction.map (·.toNat)).getD 0) ≤ 1023 then
        .next (({ s with time := ⟨seconds, (fraction.map (·.toNat)).getD 0, 0⟩ } : State).replied 0x83 tag
          (0 :: (be32 seconds ++ u16 ((fraction.map (·.toNat)).getD 0))))
      else .next (s.replied 0x83 tag [4, 0, 0]))
  ∧ (∀ (tag : Byte) (offset : Half) (s : State), s.Ready → s.time.fraction ≤ 1023 →
    (offset.toInt.natAbs ≤ 1023 →
      ∃ u : Timebase, lineTicks u = (lineTicks s.time + offset.toInt) % (1024 * 2 ^ 32) ∧ u.fraction ≤ 1023
        ∧ u.cycles = s.time.cycles
        ∧ exec (.adjustTime tag offset) s = .next (({ s with time := u } : State).replied 0x84 tag
            (0 :: (be32 u.seconds ++ u16 u.fraction))))
    ∧ (1023 < offset.toInt.natAbs → exec (.adjustTime tag offset) s = .next (s.replied 0x84 tag [4, 0, 0])))

/-- A fraction increment moves line time by 1/1024 s modulo 2^32 s, zeroes the cycle count and ages every byte held by
the receiver (R179, R168). -/
def Obligations.FractionIncrementAdvancesTime : Prop :=
  ∀ s : State, s.inReset = false → s.time.fraction ≤ 1023 →
    ∃ t, exec .timebaseFractionIncrement s = .next t ∧ lineTicks t.time = (lineTicks s.time + 1) % (1024 * 2 ^ 32)
      ∧ t.time.fraction ≤ 1023 ∧ t.time.cycles = 0 ∧ t.port.rx = s.port.rx.map (fun b => ⟨b.byte, b.age + 1⟩)
      ∧ t.pairs = s.pairs ∧ t.bank = s.bank ∧ t.faults = s.faults ∧ t.port.flags = s.port.flags
      ∧ t.port.requests = s.port.requests ∧ t.port.replies = s.port.replies

/-- CLEAR_EVENTS clears exactly the flags named and answers with the flags as they then stand (R175); SET_NOTICE_MASK
replaces the mask whole, changes no flag, and makes a notice pending when it enables a kind of which a flag is SET
(R174). Bits that name no item in what is sent are 0: log entry 31, DESIGN CHOICE. -/
def Obligations.ClearEventsAndMask : Prop :=
  ∀ (tag : Byte) (s : State), s.Ready →
    (∀ sel : EventFlags, ∃ f : EventFlags,
      exec (.clearEvents tag sel.encode) s = .next
        (({ s with port := { s.port with flags := f } } : State).replied 0x87 tag (0 :: f.encode))
      ∧ f.frameError = (s.port.flags.frameError && !sel.frameError)
      ∧ f.portOverrun = (s.port.flags.portOverrun && !sel.portOverrun)
      ∧ ∀ (p : Pair) (k : PairFlag),
          (f.pairs.get p).get k = ((s.port.flags.pairs.get p).get k && !(sel.pairs.get p).get k))
    ∧ ∀ m : NoticeMask, ∃ n : Bool,
        exec (.setNoticeMask tag m.encode) s = .next
          (({ s with port := { s.port with mask := m, noticePending := n } } : State).replied 0x88 tag [0])
        ∧ (n = true ↔ s.port.noticePending = true
            ∨ (s.port.flags.frameError = true ∧ m.frameError = true ∧ s.port.mask.frameError = false)
            ∨ (s.port.flags.portOverrun = true ∧ m.portOverrun = true ∧ s.port.mask.portOverrun = false)
            ∨ ∃ (p : Pair) (k : PairFlag), (s.port.flags.pairs.get p).get k = true ∧ m.kinds.get k = true
                ∧ s.port.mask.kinds.get k = false)

/-- A pair flag that is set: it stands afterwards, no other flag changes, and a notice becomes pending exactly when the
flag was CLEAR and its kind is ENABLED (R173, R174). -/
def Obligations.SettingAFlagCallsTheHost : Prop :=
  ∀ (s : State) (p : Pair) (k : PairFlag),
    ((s.setPairFlag p k).port.flags.pairs.get p).get k = true
    ∧ (∀ (p' : Pair) (k' : PairFlag), (p', k') ≠ (p, k) →
        ((s.setPairFlag p k).port.flags.pairs.get p').get k' = (s.port.flags.pairs.get p').get k')
    ∧ (s.setPairFlag p k).port.flags.frameError = s.port.flags.frameError
    ∧ (s.setPairFlag p k).port.flags.portOverrun = s.port.flags.portOverrun
    ∧ ((s.setPairFlag p k).port.noticePending = true ↔ s.port.noticePending = true
        ∨ ((s.port.flags.pairs.get p).get k = false ∧ s.port.mask.kinds.get k = true))
    ∧ (s.setPairFlag p k).pairs = s.pairs

/-- The refused statuses of R183. -/
def Sys2Proof.Machine.Status.refuses : Status → Bool
  | .ok | .accepted => false
  | .unknownType | .badLength | .badValue | .wrongState | .notFound | .queueFull => true

/-- A TYPE outside the table of R183, the notices and the replies among them, names no request; a request of such a TYPE
is answered UNKNOWN TYPE and one whose payload does not fit is answered BAD LENGTH; both change nothing else. Any
refused request changes nothing but for its reply, READ TRACE apart, whose refresh of an empty buffer stands (R171,
R79), and a DISABLED before which a completion that was due has been taken: log entry 17, DESIGN CHOICE. The reply to an
unknown TYPE of 0x80 or more has the sum modulo 256 as its TYPE: log entry 29, DESIGN CHOICE. -/
def Obligations.RefusedRequestsChangeNothing : Prop :=
  ((∀ (typ tag : Byte) (payload : List Byte),
    Frame.parse ⟨typ, tag, payload⟩ = .unknownType ↔
      typ.toNat ∉ [0x01, 0x02, 0x03, 0x04, 0x05, 0x06, 0x07, 0x08, 0x10, 0x11, 0x12, 0x13, 0x14, 0x15, 0x16, 0x20, 0x21,
        0x22, 0x23, 0x24, 0x25, 0x26, 0x27, 0x30, 0x31, 0x32, 0x33, 0x34, 0x38, 0x39])
  ∧ ∀ (tag typ : Byte) (payload : List Byte) (s : State), s.Ready →
    (Frame.parse ⟨typ, tag, payload⟩ = .unknownType →
      exec (.requestUnknownType tag typ payload) s = .next (s.replied (typ + 0x80) tag [2, 0, 0]))
    ∧ (Frame.parse ⟨typ, tag, payload⟩ = .badLength →
      exec (.requestUnknownType tag typ payload) s = .next (s.replied (typ + 0x80) tag [3, 0, 0])))
  ∧ (∀ (tag : Byte) (r : Request) (s : State), (∀ p i, r ≠ .readTrace p i) →
    (∀ p : Pair, (s.pair p).completionDue = true → r ≠ .setPairMode (pairByte p) 0) →
      (requestOwner tag r s).2.status.refuses = true → (requestOwner tag r s).1 = s)

/-- A pair number outside 1..4 refuses every request that names a pair with BAD VALUE and zero details (R10, R13, R14,
R30, R43, R47, R52, R78, R79, R104, R105, R111, R114, R153, R160, R165); an EDIT REPEATER whose change bitmap R185
admits. -/
def Obligations.BadPairNumberRefused : Prop :=
  ∀ (tag b : Byte) (s : State), (b = 0 ∨ 4 < b.toNat) →
    ∀ r : Request,
      ((∃ ps, r = .configurePair b ps) ∨ r = .readPairConfig b ∨ (∃ m, r = .setPairMode b m)
        ∨ (∃ f q, r = .injectFault b f q) ∨ r = .takeRole b ∨ (∃ m, r = .releaseRole b m) ∨ r = .readRole b
        ∨ (∃ f rs, r = .loadRepeaters b f rs) ∨ (∃ i, r = .readRepeater b i) ∨ (∃ i, r = .readTrace b i)
        ∨ (∃ refresh start count, r = .readResults b refresh start count)
        ∨ (∃ (i changes : Byte) (low high presence baseline : Half) (excluded : Byte), changes.toNat < 64
            ∧ (changes.getLsbD 2 && changes.getLsbD 3) = false
            ∧ r = .editRepeater b i changes low high presence baseline excluded)
        ∨ (∃ n m, r = .learnBaseline b n m) ∨ r = .abortLearn b ∨ r = .readLearning b
        ∨ ∃ i c a, r = .supervise b i c a) →
      requestOwner tag r s = (s, ⟨.badValue, [0, 0]⟩)

/-! ### The transmitter and the receiver -/

/-- What an IDLE transmitter begins (R172, R174): the oldest reply, else the pending event notice, which ends the
indicator, else the oldest due supervisory-result notice, else nothing. TXD carries the characters of the frame being
sent back to back at the rate of the two pins, each a start bit, 8 data bits with the least significant first and a stop
bit; it is idle between frames; and the end of the frame is due when its last stop bit has gone (R167). In which cycle a
bit begins: log entry 33, DESIGN CHOICE. Bits that name no item in what is sent are 0: log entry 31, DESIGN CHOICE. -/
def Obligations.TransmitterChoosesByPriority : Prop :=
  (∀ s : State,
    let rate := match s.rate1, s.rate0 with
      | false, false => 115200
      | false, true => 230400
      | true, false => 460800
      | true, true => 921600
    (s.port.tx = .idle → s.txd = .idle ∧ s.frameSentDue = false)
    ∧ ∀ (kind : SentKind) (f : Frame) (cycles : Nat), s.port.tx = .sending kind f cycles →
        let bit := cycles * rate / 16000000
        (10 * f.wire.length ≤ bit → s.txd = .idle) ∧ (s.frameSentDue = true ↔ 10 * f.wire.length ≤ bit)
        ∧ ∀ (i : Nat) (b : Byte), f.wire[i]? = some b →
            (bit = 10 * i → s.txd = .start)
            ∧ (∀ j : Nat, j < 8 → bit = 10 * i + 1 + j → s.txd = .data (b.getLsbD j))
            ∧ (bit = 10 * i + 9 → s.txd = .stop))
  ∧ ∀ s : State, s.port.tx = .idle → s.port.resetPhase ≠ .due →
    (∀ f rest, s.port.replies = f :: rest →
      s.transmit = { s with port := { s.port with tx := .sending .reply f 0 } })
    ∧ (s.port.replies = [] → s.port.noticePending = true →
        s.transmit = { s with port := { s.port with
          noticePending := false
          tx := .sending .eventNotice
            ⟨0x7E, 0, s.port.flags.encode ++ s.port.mask.encode ++ be32 s.time.seconds ++ u16 s.time.fraction⟩ 0 } })
    ∧ (∀ before e after, s.port.replies = [] → s.port.noticePending = false → s.queue = before ++ e :: after →
        (∀ x ∈ before, x.noticeDue = false) → e.noticeDue = true →
          s.transmit = { s with
            queue := before ++ e.beginNotice :: after
            port := { s.port with tx := .sending .resultNotice (resultNotice e) 0 } })
    ∧ (s.port.replies = [] → s.port.noticePending = false → (∀ x ∈ s.queue, x.noticeDue = false) → s.transmit = s)

/-- TRANSMIT_FRAME_END: a sent reply leaves the reply queue, and when the queue was full the oldest waiting request is
then taken; a sent supervisory-result notice removes its entry (R171, R172, R133). -/
def Obligations.FrameEndFreesItsPlace : Prop :=
  (∀ (f r : Frame) (rest : List Frame) (n : Nat) (s : State), s.inReset = false →
    s.port.resetPhase = .inactive → s.port.tx = .sending .reply f n → s.port.replies = r :: rest →
    s.port.requests = [] →
      exec .transmitFrameEnd s = .next
        ({ s with port := { s.port with tx := .idle, replies := rest } } : State).transmit.transmit)
  ∧ (∀ (f : Frame) (n : Nat) (before after : List QueueEntry) (e : QueueEntry) (s : State), s.inReset = false →
      s.port.resetPhase = .inactive → s.port.tx = .sending .resultNotice f n → s.port.requests = [] →
      s.queue = before ++ e :: after → (∀ x ∈ before, x.noticeSending = false) → e.noticeSending = true →
        exec .transmitFrameEnd s = .next
          ({ s with queue := before ++ after, port := { s.port with tx := .idle } } : State).transmit.transmit)
  ∧ ∀ (f g : Frame) (rest : List Frame) (n : Nat) (s : State), s.inReset = false → s.port.resetPhase = .inactive →
      s.port.tx = .sending .reply f n → s.port.replies.length = 4 → s.port.requests = g :: rest → g.typ = 0x05 →
      g.payload = [] →
        ∃ t, exec .transmitFrameEnd s = .next t ∧ t.port.requests = rest
          ∧ t.port.replies = s.port.replies.drop 1
              ++ [⟨0x85, g.tag, 0 :: (be32 s.time.seconds ++ u16 s.time.fraction)⟩]

/-- A good frame finds the reply queue full: it joins a request queue with room, and is discarded with PORT OVERRUN when
four frames wait (R170, R171). -/
def Obligations.FullQueuesHoldOrOverrun : Prop :=
  ∀ (c : Instr) (tag : Byte) (r : Request) (s : State), asRequest c = some (tag, r) → s.inReset = false →
    s.port.replies.length = 4 → s.port.resetPhase = .inactive →
      (s.port.requests.length < 4 →
        exec c s = .next
          ({ s with port := { s.port with requests := s.port.requests ++ [r.frame tag] } } : State).transmit)
      ∧ (s.port.requests.length = 4 →
        ∃ t, exec c s = .next t ∧ t.port.requests = s.port.requests ∧ t.port.replies = s.port.replies
          ∧ t.port.flags.portOverrun = true ∧ t.port.flags.pairs = s.port.flags.pairs ∧ t.pairs = s.pairs
          ∧ t.faults = s.faults ∧ t.queue.length = s.queue.length)

/-- FRAME_AGE_EXPIRED discards an incomplete frame whose age has reached 1024, with FRAME ERROR; and a frame with a
wrong CRC or a LEN outside 2..1026 is discarded with FRAME ERROR, the good frame behind it being still found and served
(R168, R169). FRAME_RECEIVED: characters before a start byte are dropped, those of an incomplete frame are held, in one
row or several, and the last one of a good frame lets its request be served, whatever the stop bits (R167, R168, R170).
That the notice of a discard is begun before the retaken bytes are taken is the model's choice: log entry 27, DEDUCED.
-/
def Obligations.BrokenFramesAreSkipped : Prop :=
  (∀ (b : HeldByte) (rest : List HeldByte) (s : State), s.inReset = false → s.port.rx = b :: rest → b.byte = 0xA5 →
    1024 ≤ b.age → assemble (rest.map (·.byte)) = .incomplete → (∀ x ∈ rest, x.byte ≠ 0xA5) →
      ∃ t, exec .frameAgeExpired s = .next t ∧ t.port.rx = [] ∧ t.port.flags.frameError = true
        ∧ t.port.requests = s.port.requests ∧ t.port.replies = s.port.replies ∧ t.port.flags.pairs = s.port.flags.pairs
        ∧ t.pairs = s.pairs)
  ∧ (∀ (junk : List Byte) (tag : Byte) (cs : List Character) (s : State), s.Ready → s.port.rx = [] →
      (∀ x ∈ junk, x ≠ 0xA5) → assemble (junk ++ (Request.frame tag .readTime).wire) = .bad →
      cs.map (·.data) = 0xA5 :: junk ++ (Request.frame tag .readTime).wire →
        exec (.frameReceived cs) s = .next
          ((s.setPartFlag .frameError).transmit.replied 0x85 tag (0 :: (be32 s.time.seconds ++ u16 s.time.fraction))))
  ∧ ∀ (cs : List Character) (s : State), s.inReset = false →
      (s.port.rx = [] → (∀ c ∈ cs, c.data ≠ 0xA5) → exec (.frameReceived cs) s = .next s.transmit)
      ∧ (∀ (stop : Bool), s.port.rx = [] → assemble (cs.map (·.data)) = .incomplete →
          exec (.frameReceived (⟨0xA5, stop⟩ :: cs)) s = .next
            ({ s with port := { s.port with rx := ⟨0xA5, 0⟩ :: cs.map (fun c => ⟨c.data, 0⟩) } } : State).transmit)
      ∧ (∀ (age : Nat) (rest : List HeldByte), s.port.rx = ⟨0xA5, age⟩ :: rest → age < 1024 →
          assemble (rest.map (·.byte) ++ cs.map (·.data)) = .incomplete →
            exec (.frameReceived cs) s = .next
              ({ s with port := { s.port with rx := s.port.rx ++ cs.map (fun c => ⟨c.data, 0⟩) } } : State).transmit)
      ∧ ∀ tag : Byte, s.Ready → cs ≠ [] → (∀ b ∈ s.port.rx, b.age < 1024) →
          s.port.rx.map (·.byte) ++ cs.map (·.data) = (Request.frame tag .readTime).wire →
            exec (.frameReceived cs) s = .next
              (({ s with port := { s.port with rx := [] } } : State).replied 0x85 tag
                (0 :: (be32 s.time.seconds ++ u16 s.time.fraction)))

/-! ### Configuration and modes -/

/-- A taken CONFIGURE_PAIR replaces all 32 parameters; in LISTEN the chip clock takes a new origin and the detectors'
partial judgements restart while their states are kept (R10, R12, R27). -/
def Obligations.ConfigurePairTaken : Prop :=
  ∀ (tag : Byte) (p : Pair) (ps : List Word) (s : State), s.Ready → ps.length = 32 →
    ((s.pair p).role = .parked ∨ (s.pair p).role = .listen) →
    firstFailing (ps.map (·.toNat)) (s.pair p).records = none →
      let q := s.pair p
      ∃ c : PairConfig, c.toParams = ps.map (·.toNat)
        ∧ exec (.configurePair tag (pairByte p) ps) s = .next ((s.setPair p { q with
            config := c
            clock := if q.role = .parked then q.clock else ⟨0, 0, 0, 0, false⟩
            det := if q.role = .parked then q.det else { q.det with
              lossRun := 0, strong := 0, disagree := 0, blockSum := 0, blockPos := 0,
              claimTone := ⟨q.det.claimTone.held, 0⟩, keepTone := ⟨q.det.keepTone.held, 0⟩ } }).replied 0x90 tag [0])

/-- CONFIGURE_PAIR is refused with WRONG STATE outside PARKED and LISTEN, and with BAD VALUE naming the first parameter
that fails: the range or the listed values of each of the 32 parameters (R9), the order also on a window of the list
that would not fit, confirm M also on a value above confirm N, and each policy on a value that its class does not allow
(R10, R11, R136). The code of auto-isolation: log entry 21, DEDUCED. -/
def Obligations.ConfigurePairRefused : Prop :=
  (∀ (tag : Byte) (p : Pair) (ps : List Word) (s : State), s.Ready → ps.length = 32 →
    ((s.pair p).role ≠ .parked → (s.pair p).role ≠ .listen →
      exec (.configurePair tag (pairByte p) ps) s = .next (s.replied 0x90 tag [5, 0, 0]))
    ∧ ∀ n : Nat, ((s.pair p).role = .parked ∨ (s.pair p).role = .listen) → 1 ≤ n → n ≤ 32 →
        (∀ m, 1 ≤ m → m < n → paramPasses (ps.map (·.toNat)) (s.pair p).records m = true) →
        paramPasses (ps.map (·.toNat)) (s.pair p).records n = false →
          exec (.configurePair tag (pairByte p) ps) s = .next (s.replied 0x90 tag [4, 0, BitVec.ofNat 8 n]))
  ∧ (∀ (ps : List Nat) (rs : List RepeaterRecord), paramPasses ps rs 1 = true ↔
      (12 ≤ param ps 1 ∧ param ps 1 ≤ 16
        ∧ ∀ r ∈ rs, r.nominalLag + r.driftLimit + r.halfWidth ≤ (2 ^ param ps 1 - 1) - 1))
  ∧ (∀ (ps : List Nat) (rs : List RepeaterRecord), paramPasses ps rs 8 = true ↔
      (1 ≤ param ps 8 ∧ param ps 8 ≤ 16 ∧ param ps 8 ≤ param ps 9))
  ∧ (∀ (ps : List Nat) (rs : List RepeaterRecord) (n lo hi : Nat),
      (n, lo, hi) ∈ [(2, 0, 4), (3, 1, 1024), (4, 1, 255), (5, 1, 100), (6, 1, 32767), (7, 1, 15), (9, 1, 16),
        (10, 1, 16), (11, 1, 8), (12, 0, 1), (13, 0, 1), (14, 0, 1), (16, 10, 500), (17, 1024, 262144), (18, 0, 3),
        (20, 0, 2047), (21, 1, 2047), (22, 100, 1000), (23, 1, 60), (24, 10, 100), (25, 100, 5000), (26, 0, 1)] →
      (paramPasses ps rs n = true ↔ lo ≤ param ps n ∧ param ps n ≤ hi))
  ∧ ∀ (ps : List Nat) (rs : List RepeaterRecord) (n : Nat) (values : List Nat),
      (n, values) ∈ [(15, [5, 10]), (19, [256, 2048]), (27, [0]), (28, [0, 1]), (29, [0, 1, 2]), (30, [0, 1, 2]),
        (31, [0, 1, 3]), (32, [0, 1, 3])] →
      (paramPasses ps rs n = true ↔ param ps n ∈ values)

/-- SET_PAIR_MODE_DISABLED (R15): refused while YIELDING or while an exchange of the pair is in flight, no change from
PARKED, and from any other state the pair enters PARKED: drive, clock, detectors, injection and synthetic source
stopped; its sweep abandoned and its pass aborted, another pair's pass running on; an ACTIVE run abandoned with cause
ROLE and LEARN DONE; its WAITING entries ended with ROLE LOST; the sequences that waited ended with ROLE LOST and FAULT
CHANGE, every other fault record kept (R71, R110, R131, R149). A completion that is due is taken in full before the pair
is parked (R73), and the request is refused where its fourth stage has started an exchange on the pair: log entry 17,
DESIGN CHOICE. -/
def Obligations.SetPairModeDisabled : Prop :=
  ∀ (tag : Byte) (p : Pair) (s : State), s.Ready →
    let q := s.pair p
    ((q.role.name = .yielding ∨ s.inFlightOn p = true) →
      exec (.setPairModeDisabled tag (pairByte p)) s = .next (s.replied 0x92 tag [5, 0, 0]))
    ∧ (q.role = .parked → s.inFlightOn p = false →
      exec (.setPairModeDisabled tag (pairByte p)) s = .next (s.replied 0x92 tag [0]))
    ∧ (q.role ≠ .parked → q.role.name ≠ .yielding → s.inFlightOn p = false → q.completionDue = true →
      let u := s.takeCompletion p
      (u.pair p).completionDue = false ∧ (u.pair p).role = q.role
      ∧ exec (.setPairModeDisabled tag (pairByte p)) s =
          if u.inFlightOn p then .next (((u.planSweep true p).arbitrate).replied 0x92 tag [5, 0, 0])
          else exec (.setPairModeDisabled tag (pairByte p)) u)
    ∧ (q.role ≠ .parked → q.role.name ≠ .yielding → s.inFlightOn p = false → q.completionDue = false →
      ∃ t, exec (.setPairModeDisabled tag (pairByte p)) s = .next t
        ∧ t.port.replies = s.port.replies ++ [⟨0x92, tag, [0]⟩]
        ∧ (t.port.flags.pairs.get p).roleChange = true
        ∧ (t.pair p).role = .parked ∧ (t.pair p).lastRole = some ⟨q.role.name, .parked, .host, s.now⟩
        ∧ (t.pair p).tone = ⟨.free, []⟩ ∧ t.driveWord p = ⟨.off, 0, .off⟩
        ∧ (t.pair p).clock = ⟨0, 0, 0, 0, false⟩
        ∧ (t.pair p).det = ⟨false, 0, 0, false, 0, 0, 0, ⟨false, 0⟩, ⟨false, 0⟩⟩
        ∧ (t.pair p).injected = none ∧ (t.pair p).learn = .idle ∧ (t.pair p).hold = (q.hold && decide (q.learn = .idle))
        ∧ (t.pair p).sweep = none
        ∧ (t.pair p).config = q.config ∧ (t.pair p).published = q.published ∧ (t.pair p).readout = q.readout
        ∧ (t.pair p).sweepNumber = q.sweepNumber
        ∧ (q.learn = .idle → (t.pair p).records = q.records ∧ (t.pair p).lastLearn = q.lastLearn)
        ∧ (q.learn ≠ .idle → (t.pair p).lastLearn = .abandoned .role q.sweepNumber s.now
            ∧ (t.port.flags.pairs.get p).learnDone = true
            ∧ (t.pair p).records = q.records.map (fun r => { r with learnSum := 0, learnCount := 0 }))
        ∧ (t.pair p).source = none
        ∧ (SweepInv s → t.bank.holder ≠ some p)
        ∧ (∀ p' : Pair, p' ≠ p → s.bank.holder = some p' → t.bank = s.bank)
        ∧ t.queue = queueAfterRoleLoss p s.queue
        ∧ (FaultListInv s → t.faults = faultsAfterRoleLoss p s.queue s.faults
            ∧ ∀ r ∈ s.faults, r.losesRole p s.queue = true → (t.port.flags.pairs.get r.pair).faultChange = true)
        ∧ (∀ e ∈ t.queue, e.pair = p → e.isWaiting = false)
        ∧ ∀ p' : Pair, p' ≠ p → PairKept (s.pair p') (t.pair p'))

/-- SET_PAIR_MODE_ENABLED takes a pair from PARKED or LOCAL to LISTEN and changes nothing else that is ENABLED (R16);
SET_PAIR_MODE_SYNTHETIC takes one from PARKED or LISTEN to LOCAL, whose first synthetic chip is the one that begins at
the entry, and is refused elsewhere (R17, R19). That its sample is formed as that chip begins: log entry 22, DESIGN
CHOICE. Leaving LOCAL finds a completion that is due taken in full (R73): log entry 17, DESIGN CHOICE. -/
def Obligations.SetPairModeEnabledAndSynthetic : Prop :=
  ∀ (tag : Byte) (p : Pair) (s : State), s.Ready →
    let q := s.pair p
    (q.role = .parked →
      exec (.setPairModeEnabled tag (pairByte p)) s = .next
        (((s.setPair p { q with
            role := .listen, lastRole := some ⟨.parked, .listen, .host, s.now⟩, clock := ⟨0, 0, 0, 0, false⟩,
            det := ⟨false, 0, 0, false, 0, 0, 0, ⟨false, 0⟩, ⟨false, 0⟩⟩ }).setPairFlag p .roleChange).replied 0x92 tag
          [0]))
    ∧ (q.role = .synthetic → q.completionDue = true →
      ((s.takeCompletion p).pair p).completionDue = false ∧ ((s.takeCompletion p).pair p).role = .synthetic
      ∧ exec (.setPairModeEnabled tag (pairByte p)) s = exec (.setPairModeEnabled tag (pairByte p)) (s.takeCompletion p))
    ∧ (q.role = .synthetic → q.completionDue = false →
      ∃ t, exec (.setPairModeEnabled tag (pairByte p)) s = .next t
        ∧ t.port.replies = s.port.replies ++ [⟨0x92, tag, [0]⟩] ∧ (t.pair p).role = .listen
        ∧ (t.pair p).lastRole = some ⟨.synthetic, .listen, .host, s.now⟩ ∧ (t.pair p).injected = none
        ∧ (t.pair p).source = none ∧ (t.pair p).learn = .idle ∧ (t.pair p).sweep = none
        ∧ (SweepInv s → t.bank.holder ≠ some p) ∧ (t.pair p).clock = q.clock ∧ (t.pair p).det = q.det
        ∧ (∀ e ∈ t.queue, e.pair = p → e.isWaiting = false)
        ∧ ∀ p' : Pair, p' ≠ p → PairKept (s.pair p') (t.pair p'))
    ∧ ((q.role = .listen ∨ q.role.name = .claiming ∨ q.role.name = .holder ∨ q.role.name = .yielding) →
      exec (.setPairModeEnabled tag (pairByte p)) s = .next (s.replied 0x92 tag [0]))
    ∧ ((q.role = .parked ∨ q.role = .listen) →
      ∃ t, exec (.setPairModeSynthetic tag (pairByte p)) s = .next t
        ∧ t.port.replies = s.port.replies ++ [⟨0x92, tag, [0]⟩] ∧ (t.pair p).role = .synthetic
        ∧ (t.pair p).lastRole = some ⟨q.role.name, .synthetic, .host, s.now⟩
        ∧ (t.pair p).clock = (if q.role = .parked then ⟨0, 0, 0, 0, false⟩ else q.clock)
        ∧ (t.pair p).records = q.records ∧ (t.pair p).config = q.config
        ∧ ((t.pair p).clock.chipCycles = 0 → (t.pair p).clock.periodDue = false →
            ∃ x, (t.pair p).source = some x ∧ -2048 ≤ x ∧ x ≤ 2047)
        ∧ ∀ p' : Pair, p' ≠ p → PairKept (s.pair p') (t.pair p'))
    ∧ (q.role ≠ .parked → q.role ≠ .listen →
      exec (.setPairModeSynthetic tag (pairByte p)) s = .next (s.replied 0x92 tag [5, 0, 0]))

/-- INJECT_FAULT: the checks in order, and the injection set, replaced or removed; the synthetic sample of a chip is the
sum over the records that are not excluded of e x chip(t - nominal lag), held within -2048..2047, where e is B / 256
and, for a record that the injection covers, B x q / 262144, each rounded half up (R28, R29, R31); the sample of a chip
is formed when it begins, so the change reaches the chips that begin afterwards (R30). That the sample is formed as its
chip begins is the model's choice: log entry 22; that a factor above 1023 is refused also with f = 0 is its reading: log
entry 15, DEDUCED. -/
def Obligations.InjectFaultSetsInjection : Prop :=
  (∀ (tag b first : Byte) (factor : Half) (s : State), s.Ready → (b = 0 ∨ 4 < b.toNat) →
    exec (.injectFault tag b first factor) s = .next (s.replied 0x93 tag [4, 0, 0]))
  ∧ (∀ (q : PairState) (position : Nat),
      let e := fun r : RepeaterRecord =>
        match q.injected with
        | none => (r.baseline + 128) / 256
        | some i => if r.index < i.first then (r.baseline + 128) / 256 else (r.baseline * i.factor + 131072) / 262144
      let echoes := (q.records.filter (fun r => !r.excluded)).map (fun r =>
        (e r : Int) * chipBefore q.config.order position r.nominalLag)
      q.echoSample position = max (-2048) (min 2047 echoes.sum))
  ∧ (∀ q : PairState, q.role = .synthetic → q.beginChip.source = some (q.echoSample q.clock.chip))
  ∧ ∀ (tag first : Byte) (factor : Half) (p : Pair) (s : State), s.Ready →
    let q := s.pair p
    (q.role ≠ .synthetic →
      exec (.injectFault tag (pairByte p) first factor) s = .next (s.replied 0x93 tag [5, 0, 0]))
    ∧ (q.role = .synthetic → 1023 < factor.toNat →
      exec (.injectFault tag (pairByte p) first factor) s = .next (s.replied 0x93 tag [4, 0, 0]))
    ∧ (q.role = .synthetic → factor.toNat ≤ 1023 → q.records.length < first.toNat →
      exec (.injectFault tag (pairByte p) first factor) s = .next (s.replied 0x93 tag [6, 0, 0]))
    ∧ (q.role = .synthetic → factor.toNat ≤ 1023 → first = 0 →
      exec (.injectFault tag (pairByte p) first factor) s = .next
        ((s.setPair p { q with injected := none }).replied 0x93 tag [0, 0, 0, 0]))
    ∧ (q.role = .synthetic → factor.toNat ≤ 1023 → first ≠ 0 → first.toNat ≤ q.records.length →
      exec (.injectFault tag (pairByte p) first factor) s = .next
        ((s.setPair p { q with injected := some ⟨first.toNat, factor.toNat⟩ }).replied 0x93 tag
          ([0, first] ++ be16 factor)))

/-- READ_PAIR_CONFIG, READ_ROLE, READ_LEARNING and READ_REPEATER answer OK in every role state with the data of R13,
R165, R111 and R52, and change nothing else; an index that no record has is NOT FOUND. Bits that name no item in what is
sent are 0: log entry 31, DESIGN CHOICE. -/
def Obligations.PairReadsAnswerAndKeep : Prop :=
  ∀ (tag : Byte) (p : Pair) (s : State), s.Ready →
    let q := s.pair p
    exec (.readPairConfig tag (pairByte p)) s = .next (s.replied 0x91 tag (0 :: (q.config.toParams.flatMap u32
        ++ [q.role.name.code, q.role.name.modeCode] ++ u16 (2 ^ q.config.order - 1)
        ++ u16 (2 * q.config.lineDelay + 100) ++ u16 q.clock.chip ++ be32 q.clock.period)))
    ∧ exec (.readRole tag (pairByte p)) s = .next (s.replied 0x96 tag (0 :: ([q.role.name.code, endCode s.endSetting,
        boolCode q.det.farPresent, boolCode q.det.lossDeclared] ++ q.role.encodeTimers ++ encodeRoleEvent q.lastRole)))
    ∧ exec (.readLearning tag (pairByte p)) s = .next (s.replied 0xA7 tag
        (0 :: (q.learn.encode ++ [boolCode q.hold] ++ q.lastLearn.encode)))
    ∧ ∀ i : Byte,
        (∀ r, recordAt q.records i.toNat = some r →
          exec (.readRepeater tag (pairByte p) i) s = .next
            (s.replied 0xA2 tag (0 :: repeaterBlock (decide (q.learn ≠ .idle)) r)))
        ∧ (recordAt q.records i.toNat = none →
          exec (.readRepeater tag (pairByte p) i) s = .next (s.replied 0xA2 tag [6, 0, 0]))

/-! ### Roles -/

/-- TAKE_ROLE: from LISTEN the pair enters CLAIMING with its burst, its claim timer at 0 and its quiet timer BURST; in
CLAIMING and HOLDER nothing changes; in PARKED, YIELDING and LOCAL it is refused (R153, R154). -/
def Obligations.TakeRoleStartsClaim : Prop :=
  (∀ (tag b : Byte) (s : State), s.Ready → (b = 0 ∨ 4 < b.toNat) →
    exec (.takeRole tag b) s = .next (s.replied 0x94 tag [4, 0, 0]))
  ∧ ∀ (tag : Byte) (p : Pair) (s : State), s.Ready →
    let q := s.pair p
    (q.role = .listen →
      exec (.takeRole tag (pairByte p)) s = .next
        (((s.setPair p { q with
            role := .claiming 0 .burst, lastRole := some ⟨.listen, .claiming, .host, s.now⟩,
            tone := ⟨.claimBurst 0, []⟩ }).setPairFlag p .roleChange).replied 0x94 tag [0]))
    ∧ ((q.role.name = .claiming ∨ q.role.name = .holder) →
      exec (.takeRole tag (pairByte p)) s = .next (s.replied 0x94 tag [0]))
    ∧ ((q.role.name = .parked ∨ q.role.name = .yielding ∨ q.role.name = .synthetic) →
      exec (.takeRole tag (pairByte p)) s = .next (s.replied 0x94 tag [5, 0, 0]))

/-- RELEASE_ROLE outside HOLDER: it ends a claim in LISTEN with the burst stopped, changes nothing in LISTEN, is refused
in PARKED, YIELDING and LOCAL, and refuses a mode that is none of the two (R160). -/
def Obligations.ReleaseRoleOutsideHolder : Prop :=
  ∀ (tag mode : Byte) (p : Pair) (s : State), s.Ready →
    let q := s.pair p
    (mode.toNat ≤ 1 → q.role.name = .claiming →
      exec (.releaseRole tag (pairByte p) mode) s = .next
        (((s.setPair p { q with
            role := .listen, lastRole := some ⟨.claiming, .listen, .host, s.now⟩, tone := ⟨.free, []⟩,
            probeOn := false }).setPairFlag p .roleChange).replied 0x95 tag [0]))
    ∧ (mode.toNat ≤ 1 → q.role = .listen →
      exec (.releaseRole tag (pairByte p) mode) s = .next (s.replied 0x95 tag [0]))
    ∧ (mode.toNat ≤ 1 → (q.role = .parked ∨ q.role.name = .yielding ∨ q.role = .synthetic) →
      exec (.releaseRole tag (pairByte p) mode) s = .next (s.replied 0x95 tag [5, 0, 0]))
    ∧ (1 < mode.toNat → exec (.releaseRole tag (pairByte p) mode) s = .next (s.replied 0x95 tag [4, 0, 0]))

/-- RELEASE_ROLE in HOLDER starts a yield in the mode carried: learning ends, the sweep is abandoned but for a pass that
a GRACEFUL yield finds running, and the pair stays YIELDING while that pass or an exchange is outstanding, else it goes
through to LISTEN with its drive silent, its WAITING entries ended with ROLE LOST and the sequences that waited ended
(R131, R149, R160 to R162). The yield finds a completion that is due taken in full (R73): log entry 17, DESIGN CHOICE.
-/
def Obligations.ReleaseRoleYields : Prop :=
  ∀ (tag : Byte) (m : YieldMode) (p : Pair) (s : State) (c : CollisionTimer), s.Ready → SweepInv s →
    (s.pair p).role = .holder c →
      let pass := decide (m = .graceful) && s.bank.runs p
      let release := Instr.releaseRole tag (pairByte p) (BitVec.ofNat 8 m.code)
      ((s.pair p).completionDue = true →
        ((s.takeCompletion p).pair p).completionDue = false ∧ ((s.takeCompletion p).pair p).role = .holder c
        ∧ exec release s = exec release (s.takeCompletion p))
      ∧ ((s.pair p).completionDue = false → ∃ t, exec release s = .next t
        ∧ t.port.replies = s.port.replies ++ [⟨0x95, tag, [0]⟩]
        ∧ (t.port.flags.pairs.get p).roleChange = true
        ∧ (t.pair p).learn = .idle ∧ (t.pair p).passReady = false ∧ (t.pair p).inBank = pass
        ∧ (pass = false → (t.pair p).sweep = none)
        ∧ (if pass || s.inFlightOn p then
            (t.pair p).role = .yielding m pass (s.inFlightOn p)
              ∧ (t.pair p).lastRole = some ⟨.holder, .yielding, .host, s.now⟩ ∧ (t.pair p).tone = (s.pair p).tone
              ∧ (t.pair p).probeOn = (s.pair p).probeOn
          else
            (t.pair p).role = .listen ∧ (t.pair p).lastRole = some ⟨.yielding, .listen, .roleYielded, s.now⟩
              ∧ t.driveWord p = ⟨.off, 0, .off⟩ ∧ ∀ e ∈ t.queue, e.pair = p → e.isWaiting = false)
        ∧ (if pass || s.inFlightOn p then t.queue = s.queue ∧ t.faults = s.faults
          else t.queue = queueAfterRoleLoss p s.queue
            ∧ (FaultListInv s → t.faults = faultsAfterRoleLoss p s.queue s.faults
              ∧ ∀ r ∈ s.faults, r.losesRole p s.queue = true → (t.port.flags.pairs.get r.pair).faultChange = true))
        ∧ ∀ p' : Pair, p' ≠ p → PairKept (s.pair p') (t.pair p'))

/-! ### The repeater table, results, faults and learning -/

/-- LOAD_REPEATERS: refused outside PARKED and LISTEN, at a first index other than 1 and n+1, and at the first failing
field; from index 1 it replaces the list and clears the pair's results and faults; from n+1 it appends (R43, R45, R46).
Every stored record is in its fresh state (R42). That a refusal names the failing record by the index it carries is the
model's reading: log entry 13, DEDUCED. -/
def Obligations.LoadRepeatersStoresRecords : Prop :=
  ∀ (tag first : Byte) (p : Pair) (ls : List LoadRecord) (s : State), s.Ready → ls.length ≤ 16 →
    let q := s.pair p
    let n := q.records.length
    let new := ls.map RepeaterRecord.ofLoad
    (∀ r ∈ new, r.centre = r.nominalLag ∧ r.lock = .search ∧ r.history = [] ∧ r.last = none ∧ r.edits = .empty)
    ∧ (q.role ≠ .parked → q.role ≠ .listen →
      exec (.loadRepeaters tag (pairByte p) first ls) s = .next (s.replied 0xA0 tag [5, 0, 0]))
    ∧ ((q.role = .parked ∨ q.role = .listen) →
      ((first.toNat ≠ 1 ∧ first.toNat ≠ n + 1) ∨ (ls = [] ∧ first.toNat ≠ 1)) →
        exec (.loadRepeaters tag (pairByte p) first ls) s = .next (s.replied 0xA0 tag [4, 0, 0]))
    ∧ (∀ i f, (q.role = .parked ∨ q.role = .listen) → (first.toNat = 1 ∨ (first.toNat = n + 1 ∧ ls ≠ [])) →
      firstBadRecord q.config.length first.toNat (if first.toNat = 1 then none else lastLag q.records) ls = some (i, f) →
        exec (.loadRepeaters tag (pairByte p) first ls) s = .next (s.replied 0xA0 tag [4, i, f]))
    ∧ ((q.role = .parked ∨ q.role = .listen) → first.toNat = n + 1 → 1 ≤ n → ls ≠ [] →
      firstBadRecord q.config.length (n + 1) (lastLag q.records) ls = none →
        exec (.loadRepeaters tag (pairByte p) first ls) s = .next
          ((s.setPair p { q with records := q.records ++ new }).replied 0xA0 tag
            [0, BitVec.ofNat 8 (n + ls.length)]))
    ∧ ((q.role = .parked ∨ q.role = .listen) → first = 1 → firstBadRecord q.config.length 1 none ls = none →
      ∃ t, exec (.loadRepeaters tag (pairByte p) first ls) s = .next t
        ∧ t.port.replies = s.port.replies ++ [⟨0xA0, tag, [0, BitVec.ofNat 8 ls.length]⟩]
        ∧ t.pair p = { q with
            records := new, sweep := none, published := none, readout := none, cursor := 1, sweepNumber := 0,
            lastLearn := .nothing }
        ∧ t.faults = s.faults.filter (fun r => decide (r.pair ≠ p)) ∧ t.nextFaultId = s.nextFaultId
        ∧ (t.port.flags.pairs.get p).faultChange
            = ((s.port.flags.pairs.get p).faultChange || s.faults.any (fun r => decide (r.pair = p)))
        ∧ ∀ p' : Pair, p' ≠ p → t.pair p' = s.pair p')

/-- EDIT_REPEATER: a change bitmap with a bit that names no item, or with bits 2 and 3 together, is refused before the
numbered checks (R185; that the first names field 0 and comes before the second: log entry 12, DESIGN CHOICE), a missing
index is NOT FOUND, and the first change out of range in field number order is BAD VALUE naming its field (R47). With
values in range: each carried value becomes the pending edit of its field and the field itself stands; the exclusion
changes at once, a record whose exclusion is cleared taking its fresh state with its pending edits; no other record
changes (R47, R49, R50). Bits that name no item in what is sent are 0: log entry 31, DESIGN CHOICE. -/
def Obligations.EditRepeaterStoresEdits : Prop :=
  (∀ (tag b i changes : Byte) (low high presence baseline : Half) (excluded : Byte) (s : State), s.Ready →
    let edit := Instr.editRepeater tag b i changes low high presence baseline excluded
    let fails : Nat → Bool := fun n =>
      match n with
      | 6 => changes.getLsbD 4 && !decide (1 ≤ baseline.toNat ∧ baseline.toNat ≤ 32767)
      | 7 => changes.getLsbD 0 && !decide (1 ≤ low.toNat ∧ low.toNat ≤ 1023)
      | 8 => changes.getLsbD 1 && !decide (1025 ≤ high.toNat ∧ high.toNat ≤ 65534)
      | 9 => changes.getLsbD 2 && !decide (1 ≤ presence.toNat ∧ presence.toNat ≤ 32767)
      | 10 => changes.getLsbD 5 && decide (1 < excluded.toNat)
      | _ => false
    (64 ≤ changes.toNat → exec edit s = .next (s.replied 0xA1 tag [4, 0, 0]))
    ∧ (changes.toNat < 64 → (changes.getLsbD 2 && changes.getLsbD 3) = true →
        exec edit s = .next (s.replied 0xA1 tag [4, 0, 9]))
    ∧ ∀ p : Pair, changes.toNat < 64 → (changes.getLsbD 2 && changes.getLsbD 3) = false → b = pairByte p →
        (recordAt (s.pair p).records i.toNat = none → exec edit s = .next (s.replied 0xA1 tag [6, 0, 0]))
        ∧ (∀ n : Nat, recordAt (s.pair p).records i.toNat ≠ none → fails n = true → (∀ m : Nat, m < n → fails m = false) →
            exec edit s = .next (s.replied 0xA1 tag [4, 0, BitVec.ofNat 8 n])))
  ∧ ∀ (tag i changes : Byte) (low high presence baseline : Half) (excluded : Byte) (p : Pair) (r : RepeaterRecord)
    (s : State), s.Ready → changes.toNat < 64 → (changes.getLsbD 2 && changes.getLsbD 3) = false →
    recordAt (s.pair p).records i.toNat = some r →
    (changes.getLsbD 0 = true → 1 ≤ low.toNat ∧ low.toNat ≤ 1023) →
    (changes.getLsbD 1 = true → 1025 ≤ high.toNat ∧ high.toNat ≤ 65534) →
    (changes.getLsbD 2 = true → 1 ≤ presence.toNat ∧ presence.toNat ≤ 32767) →
    (changes.getLsbD 4 = true → 1 ≤ baseline.toNat ∧ baseline.toNat ≤ 32767) →
    (changes.getLsbD 5 = true → excluded.toNat ≤ 1) →
      ∃ (t : State) (r' : RepeaterRecord),
        exec (.editRepeater tag (pairByte p) i changes low high presence baseline excluded) s = .next t
        ∧ t.port.replies = s.port.replies ++ [⟨0xA1, tag, 0 :: (r'.encode ++ r'.edits.encode)⟩]
        ∧ recordAt (t.pair p).records i.toNat = some r'
        ∧ r'.edits.low = (if changes.getLsbD 0 then some low.toNat else r.edits.low)
        ∧ r'.edits.high = (if changes.getLsbD 1 then some high.toNat else r.edits.high)
        ∧ r'.edits.presence = (if changes.getLsbD 2 then some (some presence.toNat)
            else if changes.getLsbD 3 then some none else r.edits.presence)
        ∧ r'.edits.baseline = (if changes.getLsbD 4 then some baseline.toNat else r.edits.baseline)
        ∧ r'.lowRatio = r.lowRatio ∧ r'.highRatio = r.highRatio ∧ r'.presence = r.presence ∧ r'.baseline = r.baseline
        ∧ r'.excluded = (if changes.getLsbD 5 then excluded == 1 else r.excluded)
        ∧ (if changes.getLsbD 5 && excluded == 0 && r.excluded then
            r'.lock = .search ∧ r'.centre = r.nominalLag ∧ r'.history = [] ∧ r'.last = none ∧ r'.excludedByMute = false
          else r'.lock = r.lock ∧ r'.centre = r.centre ∧ r'.history = r.history ∧ r'.last = r.last)
        ∧ (∀ j, j ≠ i.toNat → recordAt (t.pair p).records j = recordAt (s.pair p).records j)
        ∧ ∀ p' : Pair, p' ≠ p → PairKept (s.pair p') (t.pair p')

/-- READ_RESULTS: a due refresh copies the published sweep and sets the cursor to 1, a page of at most 16 records starts
at the from-index or the cursor, and the cursor moves past it, back to 1 at the buffer's end; a from-index beyond the
buffer is NOT FOUND and changes nothing (R77, R78). READ_TRACE: an empty buffer is refreshed first and the refresh
stands; the record of the index is answered with its bins, and an index the buffer does not hold is NOT FOUND (R79). The
first index of an empty page is the model's choice: log entry 14. Bits that name no item in what is sent are 0: log
entry 31, DESIGN CHOICE. -/
def Obligations.ResultsServedFromBuffer : Prop :=
  (∀ (tag refresh fromIndex count : Byte) (p : Pair) (s : State), s.Ready → refresh.toNat ≤ 1 →
    let q := s.pair p
    let due := refresh == 1 || q.readout.isNone
    let buffer := if due then q.published else q.readout
    let results := bufferResults buffer
    let cursor := if due then 1 else q.cursor
    let start := if fromIndex = 0 then cursor else fromIndex.toNat
    let page := (results.drop (start - 1)).take (min count.toNat 16)
    (fromIndex ≠ 0 → results.length < fromIndex.toNat →
      exec (.readResults tag (pairByte p) refresh fromIndex count) s = .next (s.replied 0xA3 tag [6, 0, 0]))
    ∧ ((fromIndex = 0 ∨ fromIndex.toNat ≤ results.length) →
      exec (.readResults tag (pairByte p) refresh fromIndex count) s = .next
        ((s.setPair p { q with
            readout := buffer
            cursor := if count = 0 then cursor
              else if results.length ≤ start - 1 + page.length then 1 else start + page.length }).replied 0xA3 tag
          ([0, pairByte p]
            ++ (match buffer with
                | some b => sweepBytes b.number ++ be32 b.time.seconds ++ u16 b.time.fraction ++ u8 b.passCount
                    ++ u8 b.results.length
                | none => zeros 14)
            ++ u8 start ++ u8 page.length ++ [boolCode q.det.lossDeclared] ++ page.flatMap SweepResult.encode))))
  ∧ (∀ (tag i : Byte) (p : Pair) (s : State), s.Ready →
    let q := s.pair p
    let s' := if q.readout = none then s.setPair p { q with readout := q.published, cursor := 1 } else s
    let buffer := if q.readout = none then q.published else q.readout
    (∀ b r, buffer = some b → b.results.find? (fun x => x.index == i.toNat) = some r →
      exec (.readTrace tag (pairByte p) i) s = .next (s'.replied 0xA4 tag
        (0 :: (sweepBytes b.number ++ u8 r.index ++ u16 r.centreUsed ++ u8 r.halfWidth ++ encodeMeasured r.measured
          ++ u8 r.bins.length ++ r.bins.flatMap BinResult.encode))))
    ∧ ((bufferResults buffer).find? (fun x => x.index == i.toNat) = none →
      exec (.readTrace tag (pairByte p) i) s = .next (s'.replied 0xA4 tag [6, 0, 0])))

/-- LIST_FAULTS answers with a page of at most eight of the selected records in list order, from the from-id on, and the
id that follows; READ_FAULT answers with one record; neither changes anything (R98, R99). Bits that name no item in what
is sent are 0: log entry 31, DESIGN CHOICE. -/
def Obligations.FaultReadsAnswerAndKeep : Prop :=
  ∀ (tag selector : Byte) (id : Half) (s : State), s.Ready →
    (4 < selector.toNat → exec (.listFaults tag selector id) s = .next (s.replied 0xB0 tag [4, 0, 0]))
    ∧ (selector.toNat ≤ 4 →
        let chosen := s.faults.filter (fun r => selector == 0 || selector.toNat == pairNumber r.pair)
        exec (.listFaults tag selector 0) s = .next (s.replied 0xB0 tag (0 :: (u8 s.faults.length
          ++ u8 (min 8 chosen.length) ++ u16 (((chosen[8]?).map (·.id)).getD 0)
          ++ (chosen.take 8).flatMap FaultRecord.summary))))
    ∧ (∀ before r after, selector.toNat ≤ 4 → id ≠ 0 → s.faults = before ++ r :: after → r.id = id.toNat →
        (∀ x ∈ before, x.id ≠ id.toNat) →
        let chosen := (r :: after).filter (fun r => selector == 0 || selector.toNat == pairNumber r.pair)
        exec (.listFaults tag selector id) s = .next (s.replied 0xB0 tag (0 :: (u8 s.faults.length
          ++ u8 (min 8 chosen.length) ++ u16 (((chosen[8]?).map (·.id)).getD 0)
          ++ (chosen.take 8).flatMap FaultRecord.summary))))
    ∧ (∀ r, id ≠ 0 → s.faultAt id.toNat = some r →
        exec (.readFault tag id) s = .next (s.replied 0xB1 tag (0 :: r.encode)))
    ∧ ((id = 0 ∨ s.faultAt id.toNat = none) →
        exec (.readFault tag id) s = .next (s.replied 0xB1 tag [6, 0, 0]))

/-- PURGE_FAULT removes one CLEARED record, NOT FOUND and WRONG STATE otherwise (R100); PURGE_FAULT_ALL_CLEARED removes
every CLEARED record of the selected pairs and answers their number (R101). The rest of the list keeps its order and no
flag is set. -/
def Obligations.PurgeRemovesClearedRecords : Prop :=
  ∀ (tag selector : Byte) (id : Half) (s : State), s.Ready →
    ((id = 0 ∨ s.faultAt id.toNat = none) →
      exec (.purgeFault tag id) s = .next (s.replied 0xB2 tag [6, 0, 0]))
    ∧ (∀ r, id ≠ 0 → s.faultAt id.toNat = some r → r.state ≠ .cleared →
      exec (.purgeFault tag id) s = .next (s.replied 0xB2 tag [5, 0, 0]))
    ∧ (∀ before r after, id ≠ 0 → s.faults = before ++ r :: after → (∀ x ∈ before, x.id ≠ id.toNat) →
        r.id = id.toNat → r.state = .cleared →
      exec (.purgeFault tag id) s = .next (({ s with faults := before ++ after } : State).replied 0xB2 tag [0, 1]))
    ∧ (4 < selector.toNat → exec (.purgeFaultAllCleared tag selector) s = .next (s.replied 0xB2 tag [4, 0, 0]))
    ∧ (selector.toNat ≤ 4 →
        let gone := fun r : FaultRecord =>
          decide (r.state = .cleared) && (selector == 0 || selector.toNat == pairNumber r.pair)
        exec (.purgeFaultAllCleared tag selector) s = .next
          (({ s with faults := s.faults.filter (fun r => !gone r) } : State).replied 0xB2 tag
            [0, BitVec.ofNat 8 (s.faults.filter gone).length]))

/-- LEARN_BASELINE starts a run in HOLDER and LOCAL with every learn sum and count at 0, and holds fault evaluation when
UNCONDITIONAL; ABORT_LEARN abandons an ACTIVE run with cause HOST (R104, R105, R110). -/
def Obligations.LearnBaselineAndAbort : Prop :=
  ∀ (tag target mode : Byte) (p : Pair) (s : State), s.Ready →
    let q := s.pair p
    let cleared := q.records.map (fun r => { r with learnSum := 0, learnCount := 0 })
    ((q.role.name ≠ .holder ∧ q.role.name ≠ .synthetic) ∨ q.learn ≠ .idle →
      exec (.learnBaseline tag (pairByte p) target mode) s = .next (s.replied 0xA5 tag [5, 0, 0]))
    ∧ ((q.role.name = .holder ∨ q.role.name = .synthetic) → q.learn = .idle →
      (if (target = 4 ∨ target = 8 ∨ target = 16) ∧ mode.toNat ≤ 1 then
        exec (.learnBaseline tag (pairByte p) target mode) s = .next
          ((s.setPair p { q with
              learn := .active (if mode = 1 then .unconditional else .conditional) target.toNat 0 0
              records := cleared
              hold := q.hold || mode == 1 }).replied 0xA5 tag (0 :: sweepBytes q.sweepNumber))
      else exec (.learnBaseline tag (pairByte p) target mode) s = .next (s.replied 0xA5 tag [4, 0, 0])))
    ∧ (q.learn = .idle → exec (.abortLearn tag (pairByte p)) s = .next (s.replied 0xA6 tag [5, 0, 0]))
    ∧ (q.learn ≠ .idle →
      exec (.abortLearn tag (pairByte p)) s = .next
        (((s.setPair p { q with
            learn := .idle, records := cleared, hold := false,
            lastLearn := .abandoned .host q.sweepNumber s.now }).setPairFlag p .learnDone).replied 0xA6 tag [0]))

/-! ### The tone channel and isolation -/

/-- SUPERVISE: the checks in order; accepted, its entry joins the newest end of the queue and the next start is decided.
A start: nothing while an exchange is in flight or no entry may start; else the OLDEST WAITING entry whose pair is
HOLDER without return loss goes IN FLIGHT with one attempt and the captured values of R118 (a broadcast: the address
4095 and no target), at the first wake symbol where its tone field is free, and waiting for the field otherwise (R7,
R114, R117 to R119). -/
def Obligations.SuperviseEnqueuesAndStarts : Prop :=
  (∀ s : State,
    let can := fun e : QueueEntry =>
      e.isWaiting = true ∧ (s.pair e.pair).role.name = .holder ∧ (s.pair e.pair).det.lossDeclared = false
    ((∃ e ∈ s.queue, e.isInFlight = true) ∨ (∀ e ∈ s.queue, ¬ can e) → s.startNext = s)
    ∧ ∀ (before after : List QueueEntry) (e : QueueEntry) (address : Nat) (target : Option CapturedTarget),
        (∀ x ∈ s.queue, x.isInFlight = false) → s.queue = before ++ e :: after → (∀ x ∈ before, ¬ can x) → can e →
      let q := s.pair e.pair
      (e.index = 0 ∧ address = 4095 ∧ target = none
        ∨ ∃ r : RepeaterRecord, e.index ≠ 0 ∧ recordAt q.records e.index = some r ∧ address = r.address
            ∧ target = some ⟨r.centre, ((r.centre : Int) + r.lastValidOffset.getD 0).toNat,
                max 1 ((r.lastLockedAmp.getD r.baseline).toNat / 2)⟩) →
      let started := fun ph : Phase => before ++ { e with
        attempts := 1
        state := .inFlight ⟨address, target, q.config.chipCode, q.config.symbolTime, q.config.turnaround,
          q.config.replyBit, q.config.checkMode⟩ ph } :: after
      (q.tone.use = .free → s.startNext =
        { s.setPair e.pair { q with tone := { q.tone with use := .commandFrame } } with
          queue := started (.transmitting 1 0 false none) })
      ∧ (q.tone.use ≠ .free → s.startNext =
        { s.setPair e.pair { q with tone := { q.tone with waiting := q.tone.waiting ++ [.commandFrame] } } with
          queue := started .toneWait }))
  ∧ ∀ (tag i command argument : Byte) (p : Pair) (s : State), s.Ready →
    let q := s.pair p
    (q.role.name ≠ .holder →
      exec (.supervise tag (pairByte p) i command argument) s = .next (s.replied 0xB8 tag [5, 0, 0]))
    ∧ (q.role.name = .holder → q.records.length < i.toNat →
      exec (.supervise tag (pairByte p) i command argument) s = .next (s.replied 0xB8 tag [6, 0, 0]))
    ∧ (q.role.name = .holder → i.toNat ≤ q.records.length →
      (commandOf command argument = none ∨ (command = 1 ∧ argument = 0 ∧ i = 0)) →
      exec (.supervise tag (pairByte p) i command argument) s = .next (s.replied 0xB8 tag [4, 0, 0]))
    ∧ ∀ (c : Command) (a : Nat), q.role.name = .holder → i.toNat ≤ q.records.length →
      commandOf command argument = some (c, a) → ¬(c = .query ∧ i = 0) →
        (8 ≤ s.queue.length →
          exec (.supervise tag (pairByte p) i command argument) s = .next (s.replied 0xB8 tag [7, 0, 0]))
        ∧ (s.queue.length < 8 →
          exec (.supervise tag (pairByte p) i command argument) s = .next
            ((({ s with queue := s.queue ++ [⟨.waiting, .host tag, p, i.toNat, c, a, q.config.retries, 0⟩] } :
              State).startNext).replied 0xB8 tag [1, BitVec.ofNat 8 (s.queue.length + 1)]))
        ∧ (s.queue.length < 8 → s.flight.isSome = true →
          exec (.supervise tag (pairByte p) i command argument) s = .next
            (({ s with queue := s.queue ++ [⟨.waiting, .host tag, p, i.toNat, c, a, q.config.retries, 0⟩] } :
              State).replied 0xB8 tag [1, BitVec.ofNat 8 (s.queue.length + 1)]))
        ∧ (∀ r, s.queue.length < 8 → (∀ e ∈ s.queue, e.isWaiting = false ∧ e.isInFlight = false) →
            q.det.lossDeclared = false → q.tone = ⟨.free, []⟩ → recordAt q.records i.toNat = some r → i ≠ 0 →
          exec (.supervise tag (pairByte p) i command argument) s = .next
            (({ s.setPair p { q with tone := ⟨.commandFrame, []⟩ } with
                queue := s.queue ++ [⟨.inFlight
                  ⟨r.address,
                    some ⟨r.centre, ((r.centre : Int) + r.lastValidOffset.getD 0).toNat,
                      max 1 ((r.lastLockedAmp.getD r.baseline).toNat / 2)⟩,
                    q.config.chipCode, q.config.symbolTime, q.config.turnaround, q.config.replyBit,
                    q.config.checkMode⟩
                  (.transmitting 1 0 false none),
                  .host tag, p, i.toNat, c, a, q.config.retries, 1⟩] } : State).replied 0xB8 tag
              [1, BitVec.ofNat 8 (s.queue.length + 1)]))

/-- ISOLATE and RELEASE_ISOLATION: the checks in order, and with room in the supervisory queue the record becomes ACTING
with a fresh action part of origin HOST, its first command joins the queue for the record's first repeater, and FAULT
CHANGE is set; a RELEASE keeps the status word (R139, R140, R141, R148). -/
def Obligations.IsolateStartsSequence : Prop :=
  ∀ (tag action : Byte) (id : Half) (s : State), s.Ready →
    ((id = 0 ∨ s.faultAt id.toNat = none) →
      exec (.isolate tag id action) s = .next (s.replied 0xB3 tag [6, 0, 0])
      ∧ exec (.releaseIsolation tag id) s = .next (s.replied 0xB4 tag [6, 0, 0]))
    ∧ ∀ r : FaultRecord, id ≠ 0 → s.faultAt id.toNat = some r →
      ((r.state ≠ .confirmed ∧ r.state ≠ .unresolved) ∨ (s.pair r.pair).role.name ≠ .holder →
        exec (.isolate tag id action) s = .next (s.replied 0xB3 tag [5, 0, 0]))
      ∧ ((r.state ≠ .isolated ∧ r.state ≠ .unresolved) ∨ (s.pair r.pair).role.name ≠ .holder →
        exec (.releaseIsolation tag id) s = .next (s.replied 0xB4 tag [5, 0, 0]))
      ∧ ((r.state = .confirmed ∨ r.state = .unresolved) → (s.pair r.pair).role.name = .holder →
          (∀ a, isolateAction action = some a → actionAllowed r.cls a = false) →
        exec (.isolate tag id action) s = .next (s.replied 0xB3 tag [4, 0, 0]))
      ∧ (∀ a, (r.state = .confirmed ∨ r.state = .unresolved) → (s.pair r.pair).role.name = .holder →
          isolateAction action = some a → actionAllowed r.cls a = true → s.queue.length < 8 →
        ∃ (t : State) (step : Step), exec (.isolate tag id action) s = .next t
          ∧ step = (if a = .hold then .commanding else .querying)
          ∧ t.faultAt id.toNat = some { r with
              state := .acting, action := some ⟨a, .host, step, none, 0, .pending⟩ }
          ∧ t.port.replies = s.port.replies ++ [⟨0xB3, tag, 1 :: (be16 id ++ [step.code])⟩]
          ∧ (t.port.flags.pairs.get r.pair).faultChange = true
          ∧ t.queue.length = s.queue.length + 1
          ∧ ∃ e ∈ t.queue, e.origin = .fault id.toNat ∧ e.pair = r.pair ∧ e.index = r.first
              ∧ e.command = (if a = .hold then .gainHold else .query) ∧ e.argument = (if a = .hold then 1 else 0))
      ∧ ((r.state = .isolated ∨ r.state = .unresolved) → (s.pair r.pair).role.name = .holder → s.queue.length < 8 →
        ∃ t : State, exec (.releaseIsolation tag id) s = .next t
          ∧ t.faultAt id.toNat = some { r with
              state := .acting,
              action := some ⟨.release, .host, .commanding, r.action.bind (·.statusWord), 0, .pending⟩ }
          ∧ t.port.replies = s.port.replies ++ [⟨0xB4, tag, 1 :: (be16 id ++ [3])⟩]
          ∧ (t.port.flags.pairs.get r.pair).faultChange = true
          ∧ t.queue.length = s.queue.length + 1
          ∧ ∃ e ∈ t.queue, e.origin = .fault id.toNat ∧ e.pair = r.pair ∧ e.index = r.first ∧ e.command = .release)

/-- TONE_SYMBOL_MIDPOINT: the midpoint of the symbol being sent compares the readback with its tone; a first mismatch
stops the transmission at the end of that symbol in the wake burst and at the stop symbol of its byte after it; after a
comparison the next midpoint is the next symbol's (R119, R121, R192). -/
def Obligations.MidpointComparesReadback : Prop :=
  ∀ (readback : Tone) (s : State) (before after : List QueueEntry) (e : QueueEntry) (c : Captured) (k n : Nat)
    (compared : Bool), s.inReset = false → s.queue = before ++ e :: after →
    (∀ x ∈ before, x.isInFlight = false) → e.state = .inFlight c (.transmitting k n compared none) →
    1 ≤ k → k ≤ 66 → (compared = true → k < 66) →
      let j := if compared then k + 1 else k
      let stop := if readback = symbolTone c e.command e.argument j then none
        else some (if j ≤ 16 then j else if j ≤ 26 then 26 else if j ≤ 36 then 36 else if j ≤ 46 then 46
          else if j ≤ 56 then 56 else 66)
      let q := s.pair e.pair
      exec (.toneSymbolMidpoint readback) s = .next
        ({ s.setPair e.pair { q with inputs := { q.inputs with readback := readback } } with
            queue := before ++ { e with
              state := .inFlight c (.transmitting j (c.symbolTime * 16000 / 2) true stop) } :: after } :
          State).transmit

/-- COMMAND_FRAME_END after the last symbol without a mismatch: a single repeater's reply is awaited from T0 = centre
lag x chip cycles + turnaround x 16,000 cycles after the frame's end, the tone field is free, or a keep burst that has
waited for it begins (R7), and the line time of E stands in the entry; a broadcast ends SENT and the next start is
decided (R117, R122). DRIVE_ERROR_STOP at the end of the symbol a mismatch chose: DRIVE FAULT is set, the tone field is
free or a waiting keep burst begins, and the entry ends DRIVE ERROR without a retry (R7, R121, R127, R128). A symbol
that a return loss let finish hands the tone field over at its end (R7, R130): log entry 16, DESIGN CHOICE of that
moment. -/
def Obligations.TransmissionEnds : Prop :=
  (∀ (s : State) (before after : List QueueEntry) (e : QueueEntry) (c : Captured) (n : Nat)
    (waiting : List ToneAsker), s.inReset = false → s.queue = before ++ e :: after →
    (∀ x ∈ before, x.isInFlight = false) → e.state = .inFlight c (.transmitting 66 n true none) →
    (s.pair e.pair).tone = ⟨.commandFrame, waiting⟩ → (∀ rest, waiting ≠ .commandFrame :: rest) →
      let freed := s.setPair e.pair { s.pair e.pair with tone := toneReleased ⟨.commandFrame, waiting⟩ }
      (∀ x : CapturedTarget, c.target = some x →
        let delay := x.centre * (16 * 2 ^ c.chipCode) + c.turnaround * 16000
        exec .commandFrameEnd s = .next
          ({ freed with queue := before ++ { e with
              state := .inFlight c (.awaitingReply s.now delay) } :: after } : State).transmit)
      ∧ (∀ tag : Byte, c.target = none → e.origin = .host tag → (s.pair e.pair).role.name ≠ .yielding →
        exec .commandFrameEnd s = .next
          ({ freed with queue := before ++ { e with
              state := .done .sent [] false } :: after } : State).startNext.transmit))
  ∧ (∀ (s : State) (before after : List QueueEntry) (e : QueueEntry) (c : Captured) (k n : Nat) (tag : Byte)
    (waiting : List ToneAsker), s.inReset = false → s.queue = before ++ e :: after →
    (∀ x ∈ before, x.isInFlight = false) → e.state = .inFlight c (.transmitting k n true (some k)) →
    (s.pair e.pair).tone = ⟨.commandFrame, waiting⟩ → (∀ rest, waiting ≠ .commandFrame :: rest) →
    e.origin = .host tag → (s.pair e.pair).role.name ≠ .yielding →
      let freed := s.setPair e.pair { s.pair e.pair with tone := toneReleased ⟨.commandFrame, waiting⟩ }
      exec .driveErrorStop s = .next
        ({ freed.setPairFlag e.pair .driveFault with
            queue := before ++ { e with state := .done .driveError [] false } :: after } : State).startNext.transmit)
  ∧ ∀ (s : State) (p : Pair) (tone : Tone) (left : Nat) (waiting : List ToneAsker),
    (s.pair p).tone = ⟨.lastSymbol tone left, waiting⟩ →
      let freed := s.setPair p { s.pair p with tone := toneReleased ⟨.lastSymbol tone left, waiting⟩ }
      (left ≠ 0 → s.endLastSymbol p = s)
      ∧ (left = 0 → (∀ rest, waiting ≠ .commandFrame :: rest) → s.endLastSymbol p = freed)
      ∧ ∀ (rest : List ToneAsker) (before after : List QueueEntry) (e : QueueEntry) (c : Captured), left = 0 →
          waiting = .commandFrame :: rest → s.queue = before ++ e :: after → (∀ x ∈ before, x.isInFlight = false) →
          e.pair = p → e.state = .inFlight c .toneWait →
            s.endLastSymbol p = { freed with
              queue := before ++ { e with state := .inFlight c (.transmitting 1 0 false none) } :: after }

/-- RECEPTION_START at a chip boundary: the entry is RECEIVING with no bit read, and a pass of its pair that the bank
runs has the record's window marked disturbed from this chip on, and no other window (R123, R36). T0 and the deadline
are stamped in the cycle in which T0 comes, and stand from there on (R122, R123, R179); where RECEPTION_START says that
T0 has come before its cycles have been counted, T0 is now: log entry 23, DESIGN CHOICE. -/
def Obligations.ReceptionStartMarksWindow : Prop :=
  (∀ (s : State) (before after : List QueueEntry) (e : QueueEntry) (c : Captured) (ph : Phase) (times : ReplyTimes),
    s.inReset = false → s.queue = before ++ e :: after → (∀ x ∈ before, x.isInFlight = false) →
    e.state = .inFlight c ph →
    (ph = .replyDue times ∨ ∃ (frameEnd : LineTime) (left : Nat), ph = .awaitingReply frameEnd left
      ∧ times = ⟨frameEnd, s.now,
          s.time.after ((if e.command = .query then 27 else 19) * c.replyBit * (16 * 2 ^ c.chipCode))⟩) →
    (s.pair e.pair).atBoundary = true →
      ∃ t, exec .receptionStart s = .next t ∧ t.pairs = s.pairs
        ∧ (∃ before' after', t.queue = before' ++ { e with state := .inFlight c (.receiving times [] 0 0) } :: after'
            ∧ before'.length = before.length ∧ after'.length = after.length)
        ∧ (∀ l done, s.bank = .running l done → l.pair = e.pair → done < l.periods →
            ∃ l', t.bank = .running l' done ∧ l'.pair = l.pair ∧ l'.periods = l.periods
              ∧ l'.windows = l.windows.map (fun w =>
                  { w with disturbed := w.disturbed || decide (w.window.index = e.index) }))
        ∧ (s.bank.runs e.pair = false → t.bank = s.bank))
  ∧ ∀ (now : Timebase) (e : QueueEntry) (c : Captured),
      (∀ (frameEnd : LineTime) (left : Nat), e.state = .inFlight c (.awaitingReply frameEnd left) →
        (e.tick now).state = .inFlight c
          (if left ≤ 1 then
            .replyDue ⟨frameEnd, ⟨now.seconds, now.fraction⟩,
              now.after ((if e.command = .query then 27 else 19) * c.replyBit * (16 * 2 ^ c.chipCode))⟩
          else .awaitingReply frameEnd (left - 1)))
      ∧ ∀ times : ReplyTimes, e.state = .inFlight c (.replyDue times) → e.tick now = e

/-- REPLY_BIT after the Nb-th chip: the bit is 1 when S x 256 / Nb, rounded to nearest with ties away from zero, reaches
the threshold (R124). A reply goes on after a marker of 1, 0 and until its last check bit; a marker other than 1, 0 ends
the attempt with NO REPLY, the last check bit ends it with what the reply decodes to (R125, R126). NO REPLY, CHECK ERROR
and BAD REPLY are tried again while retries are left and the pair is HOLDER without return loss; the new attempt waits
for a tone field that is held (R119, R127). Otherwise the entry ends: a host-origin one stays in its place, DONE, with
result and data; a fault-origin one leaves the queue and its result is delivered; the quiet guard of a YIELDING pair is
told; and DONE on LOOPBACK MUTE or RELEASE mutes or restores the record (R128, R129, R51, R162). -/
def Obligations.ReplyBitJudgesAndRetries : Prop :=
  ∀ (s : State) (before after : List QueueEntry) (e : QueueEntry) (c : Captured) (x : CapturedTarget)
    (times : ReplyTimes) (bits : List Bool) (sum : Int) (n : Nat), s.inReset = false →
    s.queue = before ++ e :: after → (∀ y ∈ before, y.isInFlight = false) → c.target = some x →
    e.state = .inFlight c (.receiving times bits sum n) → c.replyBit ≤ n → 1 ≤ c.replyBit → 1 ≤ x.threshold →
      let bit : Bool := decide (2 * (c.replyBit : Int) * x.threshold ≤ 512 * sum + c.replyBit)
      let read := bits ++ [bit]
      let total := 2 + dataBits e.command + 8
      let q := s.pair e.pair
      (read.length < total → (read.length = 2 → read = [true, false]) →
        exec .replyBit s = .next
          ({ s with queue := before ++ { e with
              state := .inFlight c (.receiving times read 0 0) } :: after } : State).transmit)
      ∧ ∀ (result : ExchangeResult) (reply : List Byte),
          ((read.length = 2 ∧ read ≠ [true, false] ∧ result = .noReply ∧ reply = [])
            ∨ (read.length = total ∧ decodeReply e c (read.drop 2) = (result, reply))) →
        let again := decide (result ∈ [ExchangeResult.noReply, .checkError, .badReply]) && decide (1 ≤ e.retries)
          && decide (q.role.name = .holder) && !q.det.lossDeclared
        let rest : State := { s with queue := before ++ after }
        let kept : State := { s with queue := before ++ { e with state := .done result reply false } :: after }
        let mutes := decide (result = .done) && decide (e.command = .loopbackMute) && decide (e.argument = 1)
        let restores := decide (result = .done)
          && ((decide (e.command = .loopbackMute) && decide (e.argument = 0)) || decide (e.command = .release))
        (again = true → q.tone = ⟨.free, []⟩ →
          exec .replyBit s = .next
            ({ s.setPair e.pair { q with tone := ⟨.commandFrame, []⟩ } with
                queue := before ++ { e with
                  retries := e.retries - 1, attempts := e.attempts + 1,
                  state := .inFlight c (.transmitting 1 0 false none) } :: after } : State).transmit)
        ∧ (again = true → q.tone.use ≠ .free →
          exec .replyBit s = .next
            ({ s.setPair e.pair { q with tone := { q.tone with waiting := q.tone.waiting ++ [.commandFrame] } } with
                queue := before ++ { e with
                  retries := e.retries - 1, attempts := e.attempts + 1,
                  state := .inFlight c .toneWait } :: after } : State).transmit)
        ∧ (∀ tag : Byte, again = false → e.origin = .host tag → q.role.name ≠ .yielding →
            (∀ y ∈ before ++ after, y.isWaiting = false ∧ y.isInFlight = false) →
          (mutes = false → restores = false → exec .replyBit s = .next kept.transmit)
          ∧ (mutes = true → exec .replyBit s = .next
              (kept.setPair e.pair { q with records := q.records.map (fun r =>
                if r.index = e.index ∧ r.excluded = false then { r with excluded := true, excludedByMute := true }
                else r) }).transmit)
          ∧ (restores = true → ∃ t, exec .replyBit s = .next t
              ∧ t.queue = kept.transmit.queue
              ∧ (t.pair e.pair).records = q.records.map (fun r =>
                  if r.index = e.index ∧ r.excludedByMute = true ∧ r.excluded = true then
                    { r.fresh with excluded := false, edits := r.edits }
                  else r)
              ∧ (t.pair e.pair).role = q.role
              ∧ ((q.role.name = .holder ∨ q.role = .synthetic) → q.det.lossDeclared = false →
                  (∃ r ∈ (t.pair e.pair).records, r.excluded = false) → (t.pair e.pair).sweep.isSome = true)))
        ∧ (∀ id : Nat, again = false → e.origin = .fault id → q.role.name ≠ .yielding →
            ∃ t, exec .replyBit s = .next t ∧ t.faults = (rest.deliver id result reply).faults
              ∧ (restores = false → mutes = false →
                  t = ((rest.deliver id result reply).startNext).transmit))
        ∧ (∀ (m : YieldMode) (pass : Bool), again = false → q.role = .yielding m pass true →
            ∃ t, exec .replyBit s = .next t
              ∧ (t.pair e.pair).role = if pass then .yielding m true false else .listen)

/-- The decoding of a whole reply (R126): a check that does not bring the covered bytes to a multiple of 256 is CHECK
ERROR; a QUERY with a good check is DONE; any other command is BAD REPLY, REFUSED or DONE by the two halves of its byte.
The CHECK byte brings the bytes it covers to a multiple of 256 (R120). What a result does to the record whose sequence
asked for it: a QUERY's status word is stored and ends a QUERY sequence, or leads a PUMP RECOVERY to the one sound pump
of a shared pair, its PUMP SELECT enqueued or waiting for room, or to NO PUMP CHOICE (R142, R143, R141); PUMP SELECT and
GAIN HOLD lead to VERIFYING with the pass-over mark of the moment (R143 to R145), RELEASE to RELEASED (R148), and any
other result to UNRESOLVED with that result (R147); a result for an id that no record holds is discarded (R151). -/
def Obligations.ReplyDecodes : Prop :=
  (∀ bs : List Byte, ((bs ++ [checkByte bs]).map (·.toNat)).sum % 256 = 0)
  ∧ (∀ (e : QueueEntry) (c : Captured) (data : List Byte) (check : Byte),
    data.length = dataBits e.command / 8 →
      let bits := (data ++ [check]).flatMap (fun b => (List.range 8).map (fun i => b.getLsbD (7 - i)))
      let covered := (match c.checkMode with
        | .classic => data
        | .enhanced => [BitVec.ofNat 8 (c.address / 256), BitVec.ofNat 8 (c.address % 256)] ++ data)
      (((covered ++ [check]).map (·.toNat)).sum % 256 ≠ 0 → decodeReply e c bits = (.checkError, []))
      ∧ (((covered ++ [check]).map (·.toNat)).sum % 256 = 0 →
          (e.command = .query → decodeReply e c bits = (.done, data))
          ∧ ∀ b : Byte, e.command ≠ .query → data = [b] →
              decodeReply e c bits =
                if b.toNat = 0xA0 + e.command.code.toNat then (.done, [b])
                else if b.toNat = 0x50 + e.command.code.toNat then (.refused, [b])
                else (.badReply, [])))
  ∧ (∀ (s : State) (id : Nat) (result : ExchangeResult) (reply : List Byte), s.faultAt id = none →
      s.deliver id result reply = s)
  ∧ ∀ (s : State) (id : Nat) (r : FaultRecord) (a : ActionPart) (hi lo : Byte) (result : ExchangeResult)
      (reply : List Byte), FaultListInv s → s.faultAt id = some r → r.state = .acting → r.action = some a →
      let w := half hi lo
      let read : ActionPart := { a with statusWord := some w }
      let ended := fun (a : ActionPart) (result : ActionResult) (state : FaultState) =>
        (s.putFault { r with
          state := state, action := some { a with step := .done, result := result } }).setPairFlag r.pair .faultChange
      let choice : Option Nat :=
        if w.getLsbD 15 || w.getLsbD 14 then none
        else if w.getLsbD 13 = w.getLsbD 12 then none else some (if w.getLsbD 13 then 1 else 2)
      (a.step = .querying → a.action ≠ .pumpRecovery → s.deliver id .done [hi, lo] = ended read .queried .confirmed)
      ∧ (a.step = .querying → a.action = .pumpRecovery → choice = none →
          s.deliver id .done [hi, lo] = ended read .noPumpChoice .unresolved)
      ∧ (∀ n : Nat, a.step = .querying → a.action = .pumpRecovery → choice = some n → s.queue.length < 8 →
          s.deliver id .done [hi, lo] =
            { s.putFault { r with action := some { read with step := .commanding } } with
              queue := s.queue
                ++ [⟨.waiting, .fault id, r.pair, r.first, .pumpSelect, n, (s.pair r.pair).config.retries, 0⟩] })
      ∧ (∀ n : Nat, a.step = .querying → a.action = .pumpRecovery → choice = some n → 8 ≤ s.queue.length →
          s.deliver id .done [hi, lo] =
            s.putFault { r with action := some { read with step := .waitingForQueue .pumpSelect n .commanding } })
      ∧ (a.step = .commanding → a.action = .release →
          s.deliver id .done reply = ended a .released .confirmed)
      ∧ (a.step = .commanding → a.action ≠ .release →
          s.deliver id .done reply = s.putFault { r with
            action := some { a with step := .verifying (s.pair r.pair).sweep.isSome, verified := 0 } })
      ∧ (a.step = .querying ∨ a.step = .commanding → result ≠ .done →
          s.deliver id result reply = ended a (.exchange result) .unresolved)

/-! ### Samples and the line-side detectors -/

/-- RETURN_SAMPLE ends a chip: the sample is the synthetic source's, or the last strobe's value, or 0; it is judged
against the return floor, joins the far-activity block, reaches every bin of a RUNNING pass of its pair and the reply
bit being received, and the chip counter advances, or the period boundary becomes due (R2, R18 to R21, R23, R34, R124).
A bin takes additions within 36 bits and saturates at the limit an addition would pass (R35). That the command acts only
when no step is due at the chip boundary before it is the model's choice: log entry 5; that the last chip of a period
leaves the counter at L-1 with the boundary due: log entry 19; that the next synthetic sample is formed as its chip
begins: log entry 22. A pair that holds the line drives its chips from the next chip that begins (R5). -/
def Obligations.ReturnSampleIsTaken : Prop :=
  (∀ (p : Pair) (strobe : Option (BitVec 12)) (s : State), s.inReset = false → (s.pair p).role ≠ .parked →
    s.boundaryStepDue p = false →
      let q := s.pair p
      let x : Int := q.source.getD ((strobe.map (·.toInt)).getD 0)
      ∃ t, exec (.returnSample p strobe) s = .next t
        ∧ (t.pair p).det = { q.det with
            lossRun := if q.det.lossDeclared = true ∨ q.config.returnFloor ≤ x.natAbs then 0 else q.det.lossRun + 1
            strong := if q.config.returnFloor ≤ x.natAbs then q.det.strong + 1 else q.det.strong
            blockSum := q.det.blockSum + x.natAbs
            blockPos := q.det.blockPos + 1 }
        ∧ (q.clock.chip + 1 < 2 ^ q.config.order - 1 →
            (t.pair p).clock = { q.clock with chip := q.clock.chip + 1, chipCycles := 0 }
            ∧ (t.pair p).source = (if q.role = .synthetic then some (q.echoSample (q.clock.chip + 1)) else none)
            ∧ (t.pair p).probeOn = (decide (q.role.name = .holder) || decide (q.role.name = .yielding)))
        ∧ (2 ^ q.config.order - 1 ≤ q.clock.chip + 1 →
            (t.pair p).clock = { q.clock with chipCycles := 0, periodDue := true } ∧ (t.pair p).source = q.source
            ∧ (t.pair p).probeOn = q.probeOn)
        ∧ t.pair p = { q with
            det := (t.pair p).det, clock := (t.pair p).clock, source := (t.pair p).source, probeOn := (t.pair p).probeOn }
        ∧ (∀ l done, s.bank = .running l done → l.pair = p → done < l.periods →
            t.bank = .running { l with windows := l.windows.map (fun w => { w with
              bins := w.bins.map (fun b => b.add (x * chipBefore q.config.order q.clock.chip b.lag)) }) } done)
        ∧ (s.bank.runs p = false → t.bank = s.bank)
        ∧ (∀ before e after c y times bits sum n, s.queue = before ++ e :: after → (∀ z ∈ before, z.isInFlight = false) →
            e.pair = p → c.target = some y → e.state = .inFlight c (.receiving times bits sum n) →
              ∃ before' after', before'.length = before.length ∧ after'.length = after.length
                ∧ t.queue = before' ++ { e with state := .inFlight c (.receiving times bits
                    (sum + x * chipBefore q.config.order q.clock.chip y.replyLag) (n + 1)) } :: after')
        ∧ (∀ p' : Pair, p' ≠ p → t.pair p' = s.pair p')
        ∧ t.faults = s.faults ∧ t.time = s.time ∧ t.port.flags = s.port.flags)
  ∧ ∀ (b : Bin) (x : Int),
      (b.saturated = true → b.add x = b)
      ∧ (b.saturated = false → -2 ^ 35 ≤ b.sum + x → b.sum + x ≤ 2 ^ 35 - 1 → b.add x = { b with sum := b.sum + x })
      ∧ (b.saturated = false → 2 ^ 35 - 1 < b.sum + x → b.add x = { b with sum := 2 ^ 35 - 1, saturated := true })
      ∧ (b.saturated = false → b.sum + x < -2 ^ 35 → b.add x = { b with sum := -2 ^ 35, saturated := true })

/-- RETURN_LOSS_DECLARED when the run counter has reached the return-loss run: the state, the flag, the pair's sweep
abandoned and its pass aborted, its exchange in flight ended with RETURN LOSS, a symbol being sent finishing; the role
of a pair that is not YIELDING stands (R20, R22, R71, R130). A completion that is due is taken in full first (R73): log
entry 17, DESIGN CHOICE. -/
def Obligations.ReturnLossIsDeclared : Prop :=
  ∀ (p : Pair) (s : State), s.inReset = false → (s.pair p).role ≠ .parked → (s.pair p).det.lossDeclared = false →
    (s.pair p).config.lossRun ≤ (s.pair p).det.lossRun →
      let q := s.pair p
      (q.completionDue = true → ((s.takeCompletion p).pair p).completionDue = false
        ∧ ((s.takeCompletion p).pair p).det = q.det
        ∧ exec (.returnLossDeclared p) s = exec (.returnLossDeclared p) (s.takeCompletion p))
      ∧ (q.completionDue = false → ∃ t, exec (.returnLossDeclared p) s = .next t
        ∧ (t.pair p).det = { q.det with lossDeclared := true, lossRun := 0 }
        ∧ (t.port.flags.pairs.get p).returnLoss = true
        ∧ (t.pair p).sweep = none ∧ (SweepInv s → t.bank.holder ≠ some p)
        ∧ (q.role.name ≠ .yielding → (t.pair p).role = q.role)
        ∧ (∀ before e after c ph tag, s.queue = before ++ e :: after → (∀ z ∈ before, z.isInFlight = false) →
            e.pair = p → e.state = .inFlight c ph → e.origin = .host tag →
              ∃ b : Bool, { e with state := .done .returnLoss [] b } ∈ t.queue)
        ∧ (∀ before e after c k n compared stop, s.queue = before ++ e :: after → (∀ z ∈ before, z.isInFlight = false) →
            e.pair = p → e.state = .inFlight c (.transmitting k n compared stop) → q.role.name = .holder →
              (t.pair p).tone.use = .lastSymbol (symbolTone c e.command e.argument k) (c.symbolTime * 16000 - n))
        ∧ (t.pair p).records = q.records ∧ (t.pair p).published = q.published
        ∧ ∀ p' : Pair, p' ≠ p → PairKept (s.pair p') (t.pair p'))

/-- PERIOD_BOUNDARY: the chip counter returns to 0, the period counter advances modulo 2^32, the strong count is judged
and restarts, and a RUNNING pass of the pair counts a period; a declared loss clears when at least half of the period's
samples were strong, which sets RETURN LOSS and lets the pair sweep again (R2, R21, R22, R33, R66). The chip that begins
is the first that a pair which has come to hold the line drives, if no chip has begun since (R5), and a LOCAL pair's
synthetic sample of it is formed as it begins (R28): log entry 22, DESIGN CHOICE. -/
def Obligations.PeriodBoundaryIsCrossed : Prop :=
  ∀ (p : Pair) (s : State), s.inReset = false → (s.pair p).role ≠ .parked → (s.pair p).clock.periodDue = true →
    let q := s.pair p
    let clears := q.det.lossDeclared && decide (2 ^ q.config.order - 1 ≤ 2 * q.det.strong)
    ∃ t, exec (.periodBoundary p) s = .next t
      ∧ (t.pair p).clock =
          { q.clock with chip := 0, period := q.clock.period + 1, chipCycles := 0, periodDue := false }
      ∧ (t.pair p).det = { q.det with lossDeclared := q.det.lossDeclared && !clears, strong := 0 }
      ∧ (t.pair p).role = q.role ∧ (t.pair p).records = q.records
      ∧ (t.pair p).source = (if q.role = .synthetic then some (q.echoSample 0) else none)
      ∧ (t.pair p).probeOn = (decide (q.role.name = .holder) || decide (q.role.name = .yielding))
      ∧ (∀ l done, s.bank = .running l done → l.pair = p → t.bank = .running l (done + 1))
      ∧ (∀ l done, s.bank = .running l done → l.pair ≠ p → t.bank = s.bank)
      ∧ (clears = true → (t.port.flags.pairs.get p).returnLoss = true)
      ∧ (clears = true → (q.role.name = .holder ∨ q.role = .synthetic) → (∃ r ∈ q.records, r.excluded = false) →
          (t.pair p).sweep.isSome = true)
      ∧ (clears = false → t.port.flags = s.port.flags ∧ t.bank.holder = s.bank.holder
          ∧ ∀ p' : Pair, p' ≠ p → t.pair p' = s.pair p')
      ∧ ∀ p' : Pair, p' ≠ p → PairKept (s.pair p') (t.pair p')

/-- FAR_ACTIVITY_BLOCK after 4096 samples: the block is active when its sum reaches 4096 x activity level, the second
block in a row that disagrees changes the far-activity state, and the change moves the quiet timer of a CLAIMING pair
and the collision timer of a HOLDER pair (R23, R24, R155, R163). -/
def Obligations.FarActivityIsJudged : Prop :=
  ∀ (p : Pair) (s : State), s.inReset = false → (s.pair p).role ≠ .parked → 4096 ≤ (s.pair p).det.blockPos →
    let q := s.pair p
    let active := decide (4096 * q.config.activityLevel ≤ q.det.blockSum)
    let changes := decide (active ≠ q.det.farPresent) && decide (1 ≤ q.det.disagree)
    ∃ role : Role,
      exec (.farActivityBlock p) s = .next
        (s.setPair p { q with
          role := role
          det := { q.det with
            farPresent := if changes then active else q.det.farPresent
            disagree := if active ≠ q.det.farPresent ∧ q.det.disagree = 0 then 1 else 0
            blockSum := 0, blockPos := 0 } }).transmit
      ∧ (changes = false → role = q.role)
      ∧ (∀ t quiet, changes = true → q.role = .claiming t quiet →
          role = .claiming t (match active, quiet with
            | true, .counting _ => .held
            | false, .held => .counting 0
            | _, x => x))
      ∧ (∀ c, changes = true → q.role = .holder c → role = .holder (if active then .counting 0 else .idle))
      ∧ (q.role.name ≠ .claiming → q.role.name ≠ .holder → role = q.role)

/-- FAR_TONE_MILLISECOND: each detector counts its run and reports a tone once it has been present for the tone detect
time (R25, R26); a FAR CLAIM TONE ends a claim at an END B part, restarts the quiet count at an END A part, and is
answered by a HOLDER with a keep burst, held behind a command frame and absorbed by one running or waiting, or with a
yield (R7, R155, R158, R159); a FAR KEEP TONE ends a claim (R157). The measured amplitudes are operands: log entry 7. Of
two events of one millisecond the claim tone is taken first, so that a claim at an END B part ends ROLE CONTENDED: log
entry 11, DESIGN CHOICE. A yield finds a completion that is due taken in full (R73): log entry 17, DESIGN CHOICE. -/
def Obligations.FarTonesAreJudged : Prop :=
  ∀ (p : Pair) (f3 f4 : Nat) (s : State), s.inReset = false → (s.pair p).role ≠ .parked →
    let q := s.pair p
    let present := fun a : Nat => decide (q.role ≠ .synthetic) && decide (q.config.activityLevel ≤ a)
    let judged := fun (d : ToneDetector) (a : Nat) =>
      if d.held = present a then (⟨d.held, 0⟩ : ToneDetector)
      else if d.run + 1 < q.config.detectTime then ⟨d.held, d.run + 1⟩ else ⟨present a, 0⟩
    let raised := fun (d : ToneDetector) (a : Nat) =>
      present a && !d.held && decide (q.config.detectTime ≤ d.run + 1)
    let q' : PairState := { q with
      clock := { q.clock with msCycles := 0 }
      inputs := { q.inputs with f3 := f3, f4 := f4 }
      det := { q.det with claimTone := judged q.det.claimTone f3, keepTone := judged q.det.keepTone f4 } }
    let claim := raised q.det.claimTone f3
    let keep := raised q.det.keepTone f4
    ∃ t, exec (.farToneMillisecond p f3 f4) s = .next t
      ∧ (t.pair p).det = q'.det ∧ (t.pair p).inputs = q'.inputs ∧ (t.pair p).clock = q'.clock
      ∧ (claim = false → keep = false → t = (s.setPair p q').transmit)
      ∧ (q.role = .listen ∨ q.role.name = .yielding ∨ q.role = .synthetic → t = (s.setPair p q').transmit)
      ∧ (∀ n quiet, claim = true → q.role = .claiming n quiet → s.endSetting = .endB →
          (t.pair p).role = .listen ∧ (t.pair p).lastRole = some ⟨.claiming, .listen, .roleContended, s.now⟩
          ∧ (t.pair p).tone = ⟨.free, []⟩ ∧ (t.port.flags.pairs.get p).roleChange = true)
      ∧ (∀ n quiet, claim = true → keep = false → q.role = .claiming n quiet → s.endSetting = .endA →
          t = (s.setPair p { q' with role := .claiming n (match quiet with
            | .counting _ => .counting 0
            | x => x) }).transmit)
      ∧ (∀ n quiet, keep = true → (claim = false ∨ s.endSetting = .endA) → q.role = .claiming n quiet →
          (t.pair p).role = .listen ∧ (t.pair p).lastRole = some ⟨.claiming, .listen, .roleRefused, s.now⟩
          ∧ (t.pair p).tone = ⟨.free, []⟩ ∧ (t.port.flags.pairs.get p).roleChange = true)
      ∧ (∀ c, claim = true → q.role = .holder c → q.config.yieldPolicy = .keep →
          t = (s.setPair p { q' with tone := keepOrdered q.tone }).transmit)
      ∧ (∀ c, claim = true → q.role = .holder c → q.config.yieldPolicy = .yield → q.completionDue = true →
          ((s.takeCompletion p).pair p).completionDue = false ∧ ((s.takeCompletion p).pair p).role = q.role
          ∧ exec (.farToneMillisecond p f3 f4) (s.takeCompletion p) = .next t)
      ∧ (∀ c, claim = true → q.role = .holder c → q.config.yieldPolicy = .yield → SweepInv s → q.completionDue = false →
          let pass := decide (q.config.yieldMode = .graceful) && s.bank.runs p
          (t.port.flags.pairs.get p).roleChange = true
          ∧ if pass || s.inFlightOn p then
              (t.pair p).role = .yielding q.config.yieldMode pass (s.inFlightOn p)
                ∧ (t.pair p).lastRole = some ⟨.holder, .yielding, .farClaim, s.now⟩
            else (t.pair p).role = .listen ∧ (t.pair p).lastRole = some ⟨.yielding, .listen, .roleYielded, s.now⟩)

/-! ### The line role -/

/-- A claim runs its course: at the end of its burst the quiet timer counts, or is HELD under far activity (R154); a
quiet count of Tq makes the pair HOLDER, plans a sweep if it may sweep, lets the arbiter decide and the next exchange
start (R156, R66, R69, R117); a claim timer at the claim timeout ends the claim (R157). A keep burst ends in a free tone
field, or a command frame that has waited for it begins at its first wake symbol (R7). -/
def Obligations.ClaimRunsItsCourse : Prop :=
  ∀ (p : Pair) (s : State), s.inReset = false →
    let q := s.pair p
    (∀ n m, q.role = .claiming n .burst → q.tone = ⟨.claimBurst m, []⟩ →
      exec (.claimBurstEnd p) s = .next (s.setPair p { q with
        tone := ⟨.free, []⟩, role := .claiming n (if q.det.farPresent then .held else .counting 0) }).transmit)
    ∧ (∀ m waiting, q.tone = ⟨.keepBurst m, waiting⟩ → (∀ rest, waiting ≠ .commandFrame :: rest) →
      exec (.keepBurstEnd p) s = .next (s.setPair p { q with tone := toneReleased q.tone }).transmit)
    ∧ (∀ m rest before after (e : QueueEntry) c, q.tone = ⟨.keepBurst m, .commandFrame :: rest⟩ →
      s.queue = before ++ e :: after → (∀ x ∈ before, x.isInFlight = false) → e.pair = p →
      e.state = .inFlight c .toneWait →
        exec (.keepBurstEnd p) s = .next
          ({ s.setPair p { q with tone := ⟨.commandFrame, rest⟩ } with
              queue := before ++ { e with state := .inFlight c (.transmitting 1 0 false none) } :: after } :
            State).transmit)
    ∧ (∀ n m, q.role = .claiming n (.counting m) → (2 * q.config.lineDelay + 100) * 16000 ≤ m →
      let won := (s.setPair p { q with
        role := .holder .idle, lastRole := some ⟨.claiming, .holder, .claimWon, s.now⟩ }).setPairFlag p .roleChange
      ∃ t, exec (.claimWon p) s = .next t ∧ t = (((won.planSweep false p).arbitrate).startNext).transmit
        ∧ (t.pair p).role = .holder .idle
        ∧ (t.pair p).lastRole = some ⟨.claiming, .holder, .claimWon, s.now⟩
        ∧ (t.port.flags.pairs.get p).roleChange = true
        ∧ (q.det.lossDeclared = false → (∃ r ∈ q.records, r.excluded = false) → (t.pair p).sweep.isSome = true)
        ∧ (t.pair p).records = q.records ∧ (t.pair p).clock = q.clock ∧ (t.pair p).det = q.det
        ∧ ∀ p' : Pair, p' ≠ p → PairKept (s.pair p') (t.pair p'))
    ∧ (∀ n quiet, q.role = .claiming n quiet → q.config.claimTimeout * 16000000 ≤ n →
      exec (.claimTimeout p) s = .next ((s.setPair p { q with
        role := .listen, lastRole := some ⟨.claiming, .listen, .roleTimeout, s.now⟩, tone := ⟨.free, []⟩,
        probeOn := false }).setPairFlag p .roleChange).transmit)

/-- COLLISION at the collision time: its flag, and an END A part restarts the timer and orders a keep burst, which is
held behind a command frame and absorbed by one running or waiting (R7); an END B part yields at once in PROMPT mode,
its sweep abandoned, staying YIELDING only while an exchange is outstanding (R163, R161, R162). The yield finds a
completion that is due taken in full (R73): log entry 17, DESIGN CHOICE. -/
def Obligations.CollisionIsResolved : Prop :=
  ∀ (p : Pair) (n : Nat) (s : State), s.inReset = false → (s.pair p).role = .holder (.counting n) →
    (s.pair p).config.collisionTime * 16000 ≤ n →
      let q := s.pair p
      (s.endSetting = .endA →
        exec (.collision p) s = .next ((s.setPair p { q with
          role := .holder (.counting 0), tone := keepOrdered q.tone }).setPairFlag p .collision).transmit)
      ∧ (s.endSetting = .endB → q.completionDue = true →
        ((s.takeCompletion p).pair p).completionDue = false ∧ ((s.takeCompletion p).pair p).role = q.role
        ∧ exec (.collision p) s = exec (.collision p) (s.takeCompletion p))
      ∧ (s.endSetting = .endB → q.completionDue = false →
        ∃ t, exec (.collision p) s = .next t ∧ (t.port.flags.pairs.get p).collision = true
          ∧ (t.port.flags.pairs.get p).roleChange = true ∧ (t.pair p).sweep = none
          ∧ (if s.inFlightOn p then
              (t.pair p).role = .yielding .prompt false true
                ∧ (t.pair p).lastRole = some ⟨.holder, .yielding, .collision, s.now⟩
            else
              (t.pair p).role = .listen ∧ (t.pair p).lastRole = some ⟨.yielding, .listen, .roleYielded, s.now⟩
                ∧ t.driveWord p = ⟨.off, 0, .off⟩)
          ∧ ∀ p' : Pair, p' ≠ p → PairKept (s.pair p') (t.pair p'))

/-! ### Passes and completions -/

/-- A planned sweep takes the records that are not excluded, in index order, each with its centre and half-width as they
stand, into passes of at most 2048 bins, a record that would go beyond that beginning the next pass (R66, R67, R68). An
IDLE bank is granted to the first PASS READY pair in cyclic order from the round-robin pointer on, its current pass is
loaded, and the pointer moves to the pair after it (R69). PASS_BEGIN at a period boundary turns an ARMED plan RUNNING,
marking the window of a reply being received (R33, R36). PASS_END after K periods returns the bank to IDLE, appends the
measurements to the held ones, and leaves the sweep ready for its next pass, to be completed, or abandoned in YIELDING;
then the arbiter decides: with no other pair waiting the next pass is granted at once, and after the last pass the bank
is IDLE (R37, R40, R69, R70, R72). That the completion is left to a command of its own: log entry 17, DESIGN CHOICE. -/
def Obligations.PassesBeginAndEnd : Prop :=
  (∀ (p : Pair) (await : Bool) (s : State),
    let q := s.pair p
    let able := (q.role.name = .holder ∨ q.role = .synthetic) ∧ q.det.lossDeclared = false
      ∧ ∃ r ∈ q.records, r.excluded = false
    let bins := fun w : Window => 2 * w.halfWidth + 1
    (q.sweep ≠ none ∨ ¬ able → s.planSweep await p = s)
    ∧ (q.sweep = none → able → ∃ passes : List (List Window),
        s.planSweep await p = s.setPair p { q with sweep := some ⟨passes, 1, [], .ready, await⟩ }
        ∧ passes.flatten = (q.records.filter (fun r => !r.excluded)).map (fun r => ⟨r.index, r.centre, r.halfWidth⟩)
        ∧ ((∀ r ∈ q.records, r.halfWidth ≤ 15) → ∀ ws ∈ passes, ws ≠ [] ∧ (ws.map bins).sum ≤ 2048)
        ∧ ∀ (before after : List (List Window)) (a rest : List Window) (w : Window),
            passes = before ++ a :: (w :: rest) :: after → 2048 < (a.map bins).sum + bins w))
  ∧ (∀ s : State,
    let turn := fun x : Pair => (pairNumber x + 4 - pairNumber s.pointer) % 4
    ((s.bank ≠ .idle ∨ ∀ x : Pair, (s.pair x).passReady = false) → s.arbitrate = s)
    ∧ ∀ (p : Pair) (w : Sweep), s.bank = .idle → (s.pair p).sweep = some w → w.stage = .ready →
        (∀ x : Pair, (s.pair x).passReady = true → turn p ≤ turn x) →
        ∃ next : Pair, pairNumber next = pairNumber p % 4 + 1
          ∧ s.arbitrate = { s.setPair p { s.pair p with sweep := some { w with stage := .inBank } } with
              bank := .armed ⟨p, (s.pair p).config.periods, (w.passes.getD (w.passNo - 1) []).map Window.load⟩
              pointer := next })
  ∧ ∀ (p : Pair) (l : BankLoad) (w : Sweep) (s : State), s.inReset = false → l.pair = p →
    (s.pair p).sweep = some w →
      let q := s.pair p
      let measured := l.windows.map (BankWindow.measure (l.periods * (2 ^ q.config.order - 1)))
      (s.bank = .armed l → q.role ≠ .parked → q.clock.chipCycles = 0 → q.clock.periodDue = false → q.clock.chip = 0 →
          w.awaitBoundary = false →
        ((∀ e ∈ s.queue, e.isInFlight = false) →
          exec (.passBegin p) s = .next ({ s with bank := .running l 0 } : State).transmit)
        ∧ (∀ before e after c times bits sum n, s.queue = before ++ e :: after → (∀ z ∈ before, z.isInFlight = false) →
            e.pair = p → e.state = .inFlight c (.receiving times bits sum n) →
          exec (.passBegin p) s = .next ({ s with bank := .running { l with windows := l.windows.map (fun x => { x with
            disturbed := x.disturbed || decide (x.window.index = e.index) }) } 0 } : State).transmit))
      ∧ (∀ done, s.bank = .running l done → l.periods ≤ done →
        ∃ t u : State, exec (.passEnd p) s = .next t
          ∧ t = u.arbitrate.transmit ∧ u.bank = .idle ∧ u.pointer = s.pointer
          ∧ (∀ p' : Pair, p' ≠ p → u.pair p' = s.pair p')
          ∧ (u.pair p).sweep = (if w.passes.length ≤ w.passNo then
              some { w with held := w.held ++ measured, stage := .completing s.now }
            else if q.role.name = .yielding then none
            else some { w with held := w.held ++ measured, passNo := w.passNo + 1, stage := .ready })
          ∧ (w.passes.length ≤ w.passNo →
              (t.pair p).sweep = some { w with held := w.held ++ measured, stage := .completing s.now })
          ∧ (w.passNo < w.passes.length → q.role.name ≠ .yielding →
              (∀ p' : Pair, p' ≠ p → (s.pair p').passReady = false) →
              (t.pair p).sweep = some { w with
                  held := w.held ++ measured, passNo := w.passNo + 1, stage := .inBank }
                ∧ t.bank = .armed ⟨p, q.config.periods, (w.passes.getD w.passNo []).map Window.load⟩)
          ∧ (w.passNo < w.passes.length → q.role.name = .yielding → (t.pair p).sweep = none)
          ∧ (∀ p' : Pair, t.bank.runs p' = false)
          ∧ (w.passes.length ≤ w.passNo ∨ q.role.name = .yielding →
              (∀ p' : Pair, p' ≠ p → (s.pair p').passReady = false) → t.bank = .idle)
          ∧ (t.pair p).records = q.records ∧ (t.pair p).published = q.published
          ∧ ∀ p' : Pair, p' ≠ p → PairKept (s.pair p') (t.pair p'))

/-- A window measurement: each bin S x 256 / N rounded to nearest with ties away from zero and clamped to 16 bits, the
peak the first of the largest amplitudes, and the validity by the marks (R37, R38, R39). A loaded window has its bins
from centre - w up (R32). -/
def Obligations.WindowIsMeasured : Prop :=
  (∀ (n : Nat) (w : BankWindow), 1 ≤ n → w.bins ≠ [] →
    let m := w.measure n
    m.index = w.window.index ∧ m.centre = w.window.centre ∧ m.bins.length = w.bins.length
    ∧ (∀ (i : Nat) (b : Bin), w.bins[i]? = some b → ∃ (a : Int) (x : BinResult), m.bins[i]? = some x
        ∧ 0 ≤ a * b.sum ∧ 2 * n * a.natAbs ≤ 512 * b.sum.natAbs + n
        ∧ 512 * b.sum.natAbs + n < 2 * n * a.natAbs + 2 * n
        ∧ x.amplitude = max (-32768) (min 32767 a) ∧ x.saturated = b.saturated
        ∧ (x.clipped = true ↔ b.clipped = true ∨ a < -32768 ∨ 32767 < a))
    ∧ (∃ (j : Nat) (x : BinResult), m.bins[j]? = some x ∧ x.amplitude = m.ap
        ∧ m.delta = (j : Int) - w.window.halfWidth
        ∧ (∀ (i : Nat) (y : BinResult), m.bins[i]? = some y → y.amplitude ≤ m.ap)
        ∧ ∀ (i : Nat) (y : BinResult), i < j → m.bins[i]? = some y → y.amplitude < m.ap)
    ∧ ((∃ x ∈ m.bins, x.saturated = true ∨ x.clipped = true) → m.validity = .overrange)
    ∧ ((∀ x ∈ m.bins, x.saturated = false ∧ x.clipped = false) →
        m.validity = if w.disturbed then .disturbed else .valid))
  ∧ ∀ w : Window, w.halfWidth ≤ w.centre → w.load.disturbed = false ∧ w.load.bins.length = 2 * w.halfWidth + 1
      ∧ ∀ i : Nat, i < 2 * w.halfWidth + 1 → w.load.bins[i]? = some ⟨w.centre - w.halfWidth + i, 0, false, false⟩

/-- SWEEP_COMPLETION: the sweep number advances by one, every record is judged in index order and its results published
with that number and the completion's time stamp, SWEEP PUBLISHED, OVERRANGE and TRACK LIMIT are set, the pair is NO
SWEEP, a pair that may sweep is planned afresh from its first pass, which waits for the next period boundary, and the
arbiter decides (R53, R54, R60, R66, R69, R70, R74 to R76); a completion taken by an event that abandons the sweep (R73)
is the same up to NO SWEEP. The stages in order (R74). Learning: a CONDITIONAL sweep is suspended by an open record that
is not ISOLATED, and 2 x Nl suspended sweeps abandon the run; a counted sweep adds to the records that contribute, and
Nl of them finish it (R106 to R110). Localization: candidates matched, the marks of records beyond an open BREAK set,
the records judged, the marks set again, and those newly CONFIRMED named; skipped under the hold, which ends with the
run (R83, R92, R109). Isolation: a VERIFYING record is passed over, counts NORMAL outcomes up to V, or ends NOT
RECOVERED; a waiting step asks again; a named record starts by the policy of its class (R137, R138, R140, R141, R146).
That the completion is a step of its own after PASS_END is the model's choice: log entry 17; that a count of outcomes
stays at 8: log entry 28. -/
def Obligations.SweepCompletionPublishes : Prop :=
  (∀ (p : Pair) (w : Sweep) (stamp : LineTime) (s : State), s.inReset = false → (s.pair p).sweep = some w →
    w.stage = .completing stamp →
      let q := s.pair p
      let judged := q.records.map (fun r => r.applyEdits.judge q.config.presence q.config.track
        (w.held.find? (fun x => x.index == r.index)))
      let ended := fun b : PublishedSweep =>
        (((((s.tableStage p judged).learningStage p w.held (q.sweepNumber + 1) stamp).judgeStages p
          (judged.map Judged.known) (q.sweepNumber + 1) stamp).publish p b).releaseHold p).leaveBank p
      ∃ (t : State) (b : PublishedSweep), exec (.sweepCompletion p) s = .next t
        ∧ t = (((ended b).planSweep true p).arbitrate).transmit ∧ s.takeCompletion p = (ended b).transmit
        ∧ (t.pair p).sweepNumber = q.sweepNumber + 1 ∧ (t.pair p).published = some b
        ∧ b.number = q.sweepNumber + 1 ∧ b.time = stamp ∧ b.passCount = w.passes.length
        ∧ b.results.length = q.records.length
        ∧ (∀ (i : Nat) (r : RepeaterRecord), q.records[i]? = some r →
            let window := w.passes.flatten.find? (fun x => x.index == r.index)
            let m := w.held.find? (fun x => x.index == r.index)
            let j := r.applyEdits.judge q.config.presence q.config.track m
            b.results[i]? = some {
              index := r.index, inPlan := window.isSome, centreUsed := (window.map (·.centre)).getD r.centre,
              centreAfter := j.record.centre, halfWidth := r.halfWidth,
              measured := if window.isSome then j.record.last else none, outcome := j.outcome, lock := j.record.lock,
              driftReached := j.record.driftReached, bins := (m.map (·.bins)).getD [] }
            ∧ (q.learn = .idle → (t.pair p).records[i]? = some j.record))
        ∧ (t.pair p).records.length = q.records.length
        ∧ (t.port.flags.pairs.get p).sweepPublished = true
        ∧ ((t.port.flags.pairs.get p).overrange
            = ((s.port.flags.pairs.get p).overrange || judged.any (fun j => j.overrange)))
        ∧ ((t.port.flags.pairs.get p).trackLimit
            = ((s.port.flags.pairs.get p).trackLimit || judged.any (fun j => j.trackLimit)))
        ∧ (t.pair p).hold = (q.hold && decide ((t.pair p).learn ≠ .idle))
        ∧ (∀ w', (t.pair p).sweep = some w' → w'.passNo = 1 ∧ w'.held = [] ∧ w'.awaitBoundary = true)
        ∧ ((q.role.name = .holder ∨ q.role = .synthetic) → q.det.lossDeclared = false →
            (∃ r ∈ (t.pair p).records, r.excluded = false) → (t.pair p).sweep.isSome = true)
        ∧ (t.pair p).readout = q.readout ∧ (t.pair p).config = q.config ∧ t.time = s.time
        ∧ ∀ p' : Pair, p' ≠ p → PairKept (s.pair p') (t.pair p'))
  ∧ (∀ (p : Pair) (ms : List WindowMeasurement) (number : BitVec 48) (stamp : LineTime) (s : State),
    let q := s.pair p
    let t := s.learningStage p ms number stamp
    (q.learn = .idle → t = s)
    ∧ ∀ (mode : LearnMode) (target counted suspended : Nat), q.learn = .active mode target counted suspended →
      let suspends := decide (mode = .conditional) && s.faults.any (fun r => decide (r.pair = p)
        && decide (r.state ∈ [FaultState.suspect, .confirmed, .acting, .unresolved]))
      let learned := q.records.map (fun r =>
        match ms.find? (fun x => x.index == r.index) with
        | some m =>
          if r.excluded = false ∧ m.validity = .valid ∧ (r.presence.getD q.config.presence : Int) ≤ m.ap
              ∧ r.lock = .locked then
            { r with learnSum := r.learnSum + m.ap.toNat, learnCount := r.learnCount + 1 }
          else r
        | none => r)
      let replaced := (learned.filter (fun r => decide (r.learnCount = target))).length
      (suspends = true → suspended + 1 ≠ 2 * target →
        t = s.setPair p { q with learn := .active mode target counted (suspended + 1) })
      ∧ (suspends = true → suspended + 1 = 2 * target →
        t = (s.setPair p { q with
          learn := .idle, records := q.records.map (fun r => { r with learnSum := 0, learnCount := 0 }), hold := false,
          lastLearn := .abandoned .suspended q.sweepNumber s.now }).setPairFlag p .learnDone)
      ∧ (suspends = false → counted + 1 ≠ target →
        t = s.setPair p { q with learn := .active mode target (counted + 1) suspended, records := learned })
      ∧ (suspends = false → counted + 1 = target →
        t = (s.setPair p { q with
          learn := .idle
          lastLearn := .finished number stamp replaced (q.records.length - replaced)
          records := learned.map (fun r =>
            if r.learnCount = target then
              { r with
                learnSum := 0, learnCount := 0, history := [], learnIncomplete := false,
                baseline := max 1 (min 32767 ((2 * r.learnSum + target) / (2 * target))) }
            else { r with learnSum := 0, learnCount := 0, learnIncomplete := true }) }).setPairFlag p .learnDone))
  ∧ (∀ (p : Pair) (ks : List Known) (number : BitVec 48) (stamp : LineTime) (s : State),
    let cs := candidates ks
    let matched := (cs.foldl (State.matchCandidate p number stamp) s).maskFaults p
    let judge := FaultRecord.judge (matched.pair p) p cs stamp
    let marked := fun (rs : List FaultRecord) => rs.map (fun r =>
      if r.pair = p ∧ r.state ≠ .cleared then
        { r with masked := rs.any (fun b => decide (b.pair = p) && decide (b.state ≠ .cleared)
            && decide (b.cls = .break) && decide (b.first < r.first)) }
      else r)
    ((s.pair p).hold = true → s.judgeStages p ks number stamp = s.isolationStage p ks [])
    ∧ ((s.pair p).hold = false → ∃ u : State,
        s.judgeStages p ks number stamp = u.isolationStage p ks ((matched.faults.filter (fun r =>
          decide (r.state ≠ .confirmed) && decide ((judge r).state = .confirmed))).map (·.id))
        ∧ u.pairs = s.pairs ∧ u.faults = marked (matched.faults.map judge)
        ∧ ∀ r ∈ matched.faults, (judge r).state ≠ r.state → (u.port.flags.pairs.get p).faultChange = true)
    ∧ (s.maskFaults p).faults = marked s.faults ∧ (s.maskFaults p).pairs = s.pairs
    ∧ ((s.maskFaults p).port.flags.pairs.get p).faultChange
        = ((s.port.flags.pairs.get p).faultChange || decide ((marked s.faults).map (·.masked) ≠ s.faults.map (·.masked))))
  ∧ (∀ (p : Pair) (ks : List Known) (named : List Nat) (s : State),
    let ofPair := fun (s : State) => s.faults.filter (fun r => decide (r.pair = p))
    let verified := (ofPair s).foldl (State.verifyPass ks) s
    let asked := (ofPair verified).foldl State.waitingPass verified
    s.isolationStage p ks named = (named.foldl State.autoStart asked).startNext)
  ∧ ∀ (ks : List Known) (s : State) (r : FaultRecord), FaultListInv s → s.faultAt r.id = some r →
    (∀ a : ActionPart, r.state = .acting → r.action = some a →
      let outcome := ((ks.find? (fun k => k.index == r.first)).map (·.outcome)).getD .unknown
      let count := min 8 (a.verified + 1)
      let ended := fun (count : Nat) (result : ActionResult) (state : FaultState) =>
        (s.putFault { r with
          state := state
          action := some { a with step := .done, verified := count, result := result } }).setPairFlag r.pair .faultChange
      (a.step = .verifying true →
        State.verifyPass ks s r = s.putFault { r with action := some { a with step := .verifying false } })
      ∧ (a.step = .verifying false → outcome = .unknown → State.verifyPass ks s r = s)
      ∧ (a.step = .verifying false → outcome = .normal → count ≠ (s.pair r.pair).config.verifyCount →
          State.verifyPass ks s r = s.putFault { r with action := some { a with verified := count } })
      ∧ (a.step = .verifying false → outcome = .normal → count = (s.pair r.pair).config.verifyCount →
          State.verifyPass ks s r = ended count .isolated .isolated)
      ∧ (a.step = .verifying false → outcome = .low ∨ outcome = .high ∨ outcome = .absent →
          State.verifyPass ks s r = ended a.verified .notRecovered .unresolved)
      ∧ (∀ (c : Command) (n : Nat) (f : CommandStep), a.step = .waitingForQueue c n f →
          s.waitingPass r =
            if s.queue.length < 8 then
              { s.putFault { r with action := some { a with
                  step := match f with | .querying => .querying | .commanding => .commanding } } with
                queue := s.queue
                  ++ [⟨.waiting, .fault r.id, r.pair, r.first, c, n, (s.pair r.pair).config.retries, 0⟩] }
            else s))
    ∧ (let config := (s.pair r.pair).config
      let policy := config.policy r.cls
      let hold := decide (policy = .hold)
      let started := fun (step : Step) =>
        (s.putFault { r with
          state := .acting, action := some ⟨policy, .auto, step, none, 0, .pending⟩ }).setPairFlag r.pair .faultChange
      (config.autoIsolation = false ∨ policy = .nothing → s.autoStart r.id = s)
      ∧ (config.autoIsolation = true → policy ≠ .nothing → policy ≠ .release → s.queue.length < 8 →
          s.autoStart r.id = { started (if hold then .commanding else .querying) with
            queue := s.queue ++ [⟨.waiting, .fault r.id, r.pair, r.first, if hold then .gainHold else .query,
              if hold then 1 else 0, config.retries, 0⟩] })
      ∧ (config.autoIsolation = true → policy ≠ .nothing → policy ≠ .release → 8 ≤ s.queue.length →
          s.autoStart r.id = started (if hold then .waitingForQueue .gainHold 1 .commanding
            else .waitingForQueue .query 0 .querying)))

/-- The probe sequence: n ones, then the recurrence of its order (R3); a chip before a chip counts back in the sequence
modulo its length (R4); a pair that holds the line sends the chip of its counter at its level (R5). -/
def Obligations.ProbeFollowsItsRecurrence : Prop :=
  (∀ n t : Nat, 12 ≤ n → n ≤ 16 → t < n → probeBit n t = true)
  ∧ (∀ t : Nat,
      probeBit 12 (t + 12) = (probeBit 12 (t + 6) ^^ probeBit 12 (t + 4) ^^ probeBit 12 (t + 1) ^^ probeBit 12 t)
      ∧ probeBit 13 (t + 13) = (probeBit 13 (t + 4) ^^ probeBit 13 (t + 3) ^^ probeBit 13 (t + 1) ^^ probeBit 13 t)
      ∧ probeBit 14 (t + 14) = (probeBit 14 (t + 5) ^^ probeBit 14 (t + 3) ^^ probeBit 14 (t + 1) ^^ probeBit 14 t)
      ∧ probeBit 15 (t + 15) = (probeBit 15 (t + 14) ^^ probeBit 15 t)
      ∧ probeBit 16 (t + 16) = (probeBit 16 (t + 15) ^^ probeBit 16 (t + 13) ^^ probeBit 16 (t + 4) ^^ probeBit 16 t))
  ∧ (∀ n c d : Nat, 12 ≤ n → n ≤ 16 → c < 2 ^ n - 1 →
      chipBefore n c d = if probeBit n (((c : Int) - d) % ((2 ^ n - 1 : Nat) : Int)).toNat then 1 else -1)
  ∧ ∀ (s : State) (p : Pair), (s.pair p).probeOn = true →
      ((s.pair p).role.name = .holder ∨ (s.pair p).role.name = .yielding) →
      (s.driveWord p).level = (s.pair p).config.level
        ∧ (s.driveWord p).chip = if probeBit (s.pair p).config.order (s.pair p).clock.chip then .plus else .minus

/-- How a completion judges a record: one without a measurement is kept and UNKNOWN; of a measured one the last
measurement, ratio, presence, lock state, outcome, history, track sign and centre (R53 to R62). -/
def Obligations.RecordIsJudged : Prop :=
  (∀ (r : RepeaterRecord) (default t : Nat), r.judge default t none = ⟨r, .unknown, false, false⟩)
  ∧ ∀ (r : RepeaterRecord) (default t : Nat) (m : WindowMeasurement),
    let j := r.judge default t (some m)
    let ratio := if 0 < m.ap then min (m.ap.toNat * 1024 / r.baseline) 65535 else 0
    let taken : RepeaterRecord := { r with
      last := some ⟨m.ap, m.delta, ratio, m.validity⟩
      lastValidOffset := if m.validity = .valid then some m.delta else r.lastValidOffset }
    (j.record.last = taken.last ∧ j.record.lastValidOffset = taken.lastValidOffset)
    ∧ (r.excluded = true ∨ m.validity ≠ .valid →
        j = ⟨taken, .unknown, !r.excluded && decide (m.validity = .overrange), false⟩)
    ∧ (r.excluded = false → m.validity = .valid →
        let present := decide ((r.presence.getD default : Int) ≤ m.ap)
        let sign : TrackSign := if m.delta < 0 then .minus else .plus
        let moved := (r.centre : Int) + m.delta
        let low := (r.nominalLag : Int) - r.driftLimit
        let high := (r.nominalLag : Int) + r.driftLimit
        j.record.lock = (match r.lock with
          | .search => if present then .candidate else .search
          | .candidate =>
            if present then (if (m.delta - r.remembered.getD 0).natAbs ≤ 1 then .locked else .candidate) else .search
          | .locked => if present then .locked else .fading
          | .fading => if present then .locked else if 3 ≤ r.missCount + 1 then .lost else .fading
          | .lost => if present then .candidate else .lost)
        ∧ (j.record.lock = .candidate → j.record.remembered = some m.delta)
        ∧ (r.lock = .locked → present = false → j.record.missCount = 1)
        ∧ (r.lock = .fading → j.record.missCount = if present then 0 else r.missCount + 1)
        ∧ j.outcome = (match j.record.lock with
          | .lost => .absent
          | .locked => if ratio < r.lowRatio then .low else if r.highRatio < ratio then .high else .normal
          | _ => .unknown)
        ∧ j.record.history = (if j.outcome = .unknown then r.history else (j.outcome :: r.history).take 16)
        ∧ (j.record.lock ≠ .locked →
            j.record.trackSign = .unset ∧ j.record.centre = r.centre ∧ j.trackLimit = false
              ∧ j.record.lastLockedAmp = r.lastLockedAmp)
        ∧ (j.record.lock = .locked → j.record.lastLockedAmp = some m.ap)
        ∧ (j.record.lock = .locked → m.delta.natAbs < t →
            j.record.trackSign = .unset ∧ j.record.centre = r.centre ∧ j.trackLimit = false)
        ∧ (j.record.lock = .locked → t ≤ m.delta.natAbs → r.trackSign ≠ sign →
            j.record.trackSign = sign ∧ j.record.centre = r.centre ∧ j.trackLimit = false)
        ∧ (j.record.lock = .locked → t ≤ m.delta.natAbs → r.trackSign = sign →
            j.record.trackSign = .unset ∧ j.record.centre = (max low (min high moved)).toNat
              ∧ j.record.driftReached = (decide (moved < low) || decide (high < moved))
              ∧ j.trackLimit = j.record.driftReached))

/-! ### Fault localization -/

/-- Segments, classes and candidate ratios: the class and ratio of one run of deviating known outcomes that NORMAL ones
surround, and of one that reaches the end; UNKNOWN outcomes are dropped first (R84, R85, R86). -/
def Obligations.CandidatesAreClassified : Prop :=
  (∀ ks : List Known, candidates ks = candidates (ks.filter (fun k => decide (k.outcome ≠ .unknown))))
  ∧ (∀ pre post : List Known, (∀ k ∈ pre ++ post, k.outcome = .normal) → candidates (pre ++ post) = [])
  ∧ ∀ (pre run post : List Known) (a z : Known), (∀ k ∈ pre ++ post, k.outcome = .normal) →
      (∀ k ∈ run, k.outcome = .low ∨ k.outcome = .high ∨ k.outcome = .absent) →
      run.head? = some a → run.getLast? = some z →
        ∃ c : Candidate, candidates (pre ++ run ++ post) = [c] ∧ c.first = a.index ∧ c.last = z.index
          ∧ ((∀ k ∈ run, k.outcome = .high) → c.cls = .surge
              ∧ ∃ k ∈ run, c.ratio = some k.ratio ∧ ∀ x ∈ run, x.ratio ≤ k.ratio)
          ∧ ((∃ k ∈ run, k.outcome = .high) → (∃ k ∈ run, k.outcome ≠ .high) → c.cls = .unstable
              ∧ ∃ k ∈ run, k.outcome ≠ .absent ∧ c.ratio = some k.ratio
                ∧ ∀ x ∈ run, x.outcome ≠ .absent →
                    ((x.ratio : Int) - 1024).natAbs ≤ ((k.ratio : Int) - 1024).natAbs
                    ∧ (((x.ratio : Int) - 1024).natAbs = ((k.ratio : Int) - 1024).natAbs → k.ratio ≤ x.ratio))
          ∧ ((∀ k ∈ run, k.outcome = .absent) → post = [] → c.cls = .break ∧ c.ratio = none)
          ∧ ((∀ k ∈ run, k.outcome = .absent) → post ≠ [] → run.length = 1 → c.cls = .loopbackLoss ∧ c.ratio = none)
          ∧ ((∀ k ∈ run, k.outcome = .absent) → post ≠ [] → 2 ≤ run.length → c.cls = .dip ∧ c.ratio = none)
          ∧ ((∀ k ∈ run, k.outcome ≠ .high) → (∃ k ∈ run, k.outcome = .low) →
              c.cls = (if post = [] then .step else .dip)
              ∧ ∃ k ∈ run, k.outcome = .low ∧ c.ratio = some k.ratio ∧ ∀ x ∈ run, x.outcome = .low → k.ratio ≤ x.ratio)

/-- The fault list at a completion: a candidate updates the open record of its pair and first repeater, or opens a
record with the first id from the next fault id on that no record holds, in the place of the oldest CLEARED record of a
full list, or is dropped with FAULT LIST FULL, and the worst ratio follows the ratio group (R82, R87 to R91); an
unmasked open record of the pair confirms, relapses, counts absence or clears (R93 to R96). -/
def Obligations.FaultListFollowsCandidates : Prop :=
  (∀ (p : Pair) (number : BitVec 48) (stamp : LineTime) (s : State) (c : Candidate), FaultListInv s →
    let t := State.matchCandidate p number stamp s c
    let fits := fun r : FaultRecord => decide (r.pair = p) && decide (r.first = c.first) && decide (r.state ≠ .cleared)
    let opened := fun id : Nat =>
      (⟨id, p, c.first, c.last, c.cls, .suspect, stamp, number, none, none, c.ratio, 0, false, false, none⟩ : FaultRecord)
    t.pairs = s.pairs
    ∧ (∀ before r after, s.faults = before ++ r :: after → (∀ x ∈ before, fits x = false) → fits r = true →
        ∃ worst : Option Nat, t.faults = before ++ { r with cls := c.cls, last := c.last, worst := worst } :: after
          ∧ (r.cls.group ≠ c.cls.group → worst = c.ratio)
          ∧ (∀ a b, r.cls.group = .lowest → c.cls.group = .lowest → r.worst = some a → c.ratio = some b →
              worst = some (min a b))
          ∧ (∀ a b, r.cls.group = .highest → c.cls.group = .highest → r.worst = some a → c.ratio = some b →
              worst = some (max a b))
          ∧ (∀ a b, r.cls.group = .farthest → c.cls.group = .farthest → r.worst = some a → c.ratio = some b →
              worst = some (if ((a : Int) - 1024).natAbs < ((b : Int) - 1024).natAbs then b else a))
          ∧ (r.cls.group = .nothing → c.cls.group = .nothing → worst = none)
          ∧ (r.cls.group = c.cls.group → c.cls.group ≠ .nothing → r.worst = none → worst = c.ratio)
          ∧ (r.cls.group = c.cls.group → c.ratio = none → c.cls.group ≠ .nothing → worst = r.worst)
          ∧ (r.cls ≠ c.cls → (t.port.flags.pairs.get p).faultChange = true)
          ∧ (r.cls = c.cls → t.port.flags = s.port.flags))
    ∧ ((∀ x ∈ s.faults, fits x = false) → s.faults.length < 32 →
        ∃ id : Nat, t.faults = s.faults ++ [opened id] ∧ FirstFreeFrom s.faults s.nextFaultId id
          ∧ t.nextFaultId = id % 65535 + 1
          ∧ (t.port.flags.pairs.get p).faultChange = true)
    ∧ (∀ before r after, (∀ x ∈ s.faults, fits x = false) → s.faults.length = 32 → s.faults = before ++ r :: after →
        (∀ x ∈ before, x.state ≠ .cleared) → r.state = .cleared →
        ∃ id : Nat, t.faults = before ++ after ++ [opened id] ∧ FirstFreeFrom (before ++ after) s.nextFaultId id
          ∧ t.nextFaultId = id % 65535 + 1
          ∧ (t.port.flags.pairs.get p).faultChange = true ∧ (t.port.flags.pairs.get r.pair).faultChange = true)
    ∧ ((∀ x ∈ s.faults, fits x = false ∧ x.state ≠ .cleared) → s.faults.length = 32 →
        t.faults = s.faults ∧ t.nextFaultId = s.nextFaultId ∧ (t.port.flags.pairs.get p).faultListFull = true))
  ∧ ∀ (q : PairState) (p : Pair) (cs : List Candidate) (stamp : LineTime) (r : FaultRecord),
      let history := ((recordAt q.records r.first).map (·.history)).getD []
      let seen := ((history.take q.config.confirmN).filter (fun o => o == .low || o == .high || o == .absent)).length
      (r.pair ≠ p ∨ r.state = .cleared ∨ r.masked = true → r.judge q p cs stamp = r)
      ∧ (r.pair = p → r.masked = false → (∃ c ∈ cs, c.first = r.first) →
          (r.state = .suspect → r.judge q p cs stamp =
            if q.config.confirmM ≤ seen then { r with absence := 0, state := .confirmed, confirmed := some stamp }
            else { r with absence := 0 })
          ∧ (r.state = .isolated → r.judge q p cs stamp = { r with
              absence := 0, state := .unresolved, action := r.action.map (fun a => { a with result := .relapsed }) })
          ∧ (r.state = .confirmed ∨ r.state = .acting ∨ r.state = .unresolved →
              r.judge q p cs stamp = { r with absence := 0 }))
      ∧ (r.pair = p → r.masked = false → (∀ c ∈ cs, c.first ≠ r.first) →
          (r.state = .suspect ∨ r.state = .confirmed ∨ r.state = .unresolved → r.judge q p cs stamp =
            if q.config.clearCount ≤ r.absence + 1 then { r with
              absence := r.absence + 1, state := .cleared, cleared := some stamp,
              neverConfirmed := r.neverConfirmed || decide (r.state = .suspect) }
            else { r with absence := r.absence + 1 })
          ∧ (r.state = .acting ∨ r.state = .isolated → r.judge q p cs stamp = r))

/-! ### What every step keeps -/

/-- Every step keeps line time legal and the two frame queues within four frames (R170, R171, R179). -/
def Obligations.StepKeepsTimeAndPort : Prop :=
  ∀ s t : State, TimeInv s → PortInv s → step s = .next t → TimeInv t ∧ PortInv t

/-- Every step keeps the supervisory queue within 8 entries with at most one in flight, whose pair is HOLDER or YIELDING
with its exchange outstanding (R113, R131, R161); and a pair in PARKED, LISTEN or LOCAL without a tone (R6). -/
def Obligations.StepKeepsToneChannel : Prop :=
  (∀ s t : State, SupervisoryInv s → step s = .next t → SupervisoryInv t)
  ∧ ∀ s t : State, SupervisoryInv s → ToneInv s → step s = .next t → ToneInv t

/-- Every step keeps the bank and the sweeps of the four pairs in agreement, and every sweep with its pair's role (R65,
R69, R71 to R73, R161). -/
def Obligations.StepKeepsSweepsAndBank : Prop :=
  ∀ s t : State, SweepInv s → step s = .next t → SweepInv t

/-- Every step keeps at most 32 fault records with distinct ids in 1..65535 (R81, R82), and every action part in
agreement with its record's state (R135). -/
def Obligations.StepKeepsFaultList : Prop :=
  (∀ s t : State, FaultListInv s → step s = .next t → FaultListInv t)
  ∧ ∀ s t : State, FaultListInv s → FaultActionInv s → step s = .next t → FaultActionInv t

/-- Every step keeps every pair's list: indices 1..n, rising nominal lags, records whose fields are in range, whose
centre is within the drift limit and whose lock state agrees with its counts, and a configuration that passes R11 (R11,
R44, R45, R47, R57, R60, R62). -/
def Obligations.StepKeepsRepeaterLists : Prop :=
  ∀ s t : State, (∀ p : Pair, ListInv (s.pair p)) → step s = .next t → ∀ p : Pair, ListInv (t.pair p)

/-- The machine after reset meets every invariant. -/
def Obligations.ResetMeetsInvariants : Prop :=
  TimeInv State.reset ∧ PortInv State.reset ∧ SupervisoryInv State.reset ∧ ToneInv State.reset ∧ SweepInv State.reset
    ∧ FaultListInv State.reset ∧ FaultActionInv State.reset ∧ ∀ p : Pair, ListInv (State.reset.pair p)
end

