-- ==== Sys2Proof/Laws/State.lean ====
section
/-! SUPPORT. What each update of the state leaves and what it writes, one lemma for each field, so that no proof unfolds a
record update. -/

namespace Sys2Proof.Machine

/-! ### One value for each pair -/

@[simp] theorem PerPair.get_set_same {α : Type} (t : PerPair α) (p : Pair) (x : α) : (t.set p x).get p = x := by
  cases p <;> rfl

theorem PerPair.get_set_other {α : Type} (t : PerPair α) {p p' : Pair} (x : α) (h : p' ≠ p) :
    (t.set p x).get p' = t.get p' := by
  cases p <;> cases p' <;> first | rfl | exact absurd rfl h

@[simp] theorem PerPair.get_all {α : Type} (x : α) (p : Pair) : (PerPair.all x).get p = x := by cases p <;> rfl

@[simp] theorem PerPair.set_get {α : Type} (t : PerPair α) (p : Pair) : t.set p (t.get p) = t := by cases p <;> rfl

@[simp] theorem PerPair.set_set {α : Type} (t : PerPair α) (p : Pair) (x y : α) : (t.set p x).set p y = t.set p y := by
  cases p <;> rfl

theorem PerPair.ext_get {α : Type} {t u : PerPair α} (h : ∀ p : Pair, t.get p = u.get p) : t = u := by
  have h1 := h .one
  have h2 := h .two
  have h3 := h .three
  have h4 := h .four
  cases t
  cases u
  simp_all [PerPair.get]

@[simp] theorem PairFlags.get_set_same (f : PairFlags) (k : PairFlag) (b : Bool) : (f.set k b).get k = b := by
  cases k <;> rfl

theorem PairFlags.get_set_other (f : PairFlags) {k k' : PairFlag} (b : Bool) (h : k' ≠ k) :
    (f.set k b).get k' = f.get k' := by
  cases k <;> cases k' <;> first | rfl | exact absurd rfl h

@[simp] theorem PairFlags.get_all (b : Bool) (k : PairFlag) : (PairFlags.all b).get k = b := by cases k <;> rfl

/-! ### One pair's state -/

@[simp] theorem State.pair_setPair_same (s : State) (p : Pair) (q : PairState) : (s.setPair p q).pair p = q :=
  PerPair.get_set_same _ _ _

theorem State.pair_setPair_other (s : State) {p p' : Pair} (q : PairState) (h : p' ≠ p) :
    (s.setPair p q).pair p' = s.pair p' := PerPair.get_set_other _ _ h

@[simp] theorem State.pair_modPair_same (s : State) (p : Pair) (f : PairState → PairState) :
    (s.modPair p f).pair p = f (s.pair p) := PerPair.get_set_same _ _ _

theorem State.pair_modPair_other (s : State) {p p' : Pair} (f : PairState → PairState) (h : p' ≠ p) :
    (s.modPair p f).pair p' = s.pair p' := PerPair.get_set_other _ _ h

@[simp] theorem State.setPair_setPair (s : State) (p : Pair) (q q' : PairState) :
    (s.setPair p q).setPair p q' = s.setPair p q' := by simp [State.setPair]

@[simp] theorem State.modPair_setPair (s : State) (p : Pair) (q : PairState) (f : PairState → PairState) :
    (s.setPair p q).modPair p f = s.setPair p (f q) := by simp [State.modPair]

@[simp] theorem State.modPair_modPair (s : State) (p : Pair) (f g : PairState → PairState) :
    (s.modPair p f).modPair p g = s.modPair p (fun q => g (f q)) := by simp [State.modPair]

@[simp] theorem State.setPair_pair (s : State) (p : Pair) : s.setPair p (s.pair p) = s := by
  simp [State.setPair, State.pair]

@[simp] theorem State.pair_setPairFlag (s : State) (p p' : Pair) (k : PairFlag) :
    (s.setPairFlag p k).pair p' = s.pair p' := rfl

@[simp] theorem State.pair_modFlight (s : State) (f : QueueEntry → QueueEntry) (p : Pair) :
    (s.modFlight f).pair p = s.pair p := rfl

@[simp] theorem State.pair_modFault (s : State) (i : Nat) (f : FaultRecord → FaultRecord) (p : Pair) :
    (s.modFault i f).pair p = s.pair p := rfl

@[simp] theorem State.setPairFlag_setPair (s : State) (p p' : Pair) (q : PairState) (k : PairFlag) :
    (s.setPairFlag p k).setPair p' q = (s.setPair p' q).setPairFlag p k := rfl

@[simp] theorem State.setPairFlag_modPair (s : State) (p p' : Pair) (f : PairState → PairState) (k : PairFlag) :
    (s.setPairFlag p k).modPair p' f = (s.modPair p' f).setPairFlag p k := rfl

/-! ### `setPair` writes the pairs -/

@[simp] theorem State.setPair_pending (s : State) (p : Pair) (q : PairState) :
    (s.setPair p q).pending = s.pending := rfl

@[simp] theorem State.setPair_inReset (s : State) (p : Pair) (q : PairState) :
    (s.setPair p q).inReset = s.inReset := rfl

@[simp] theorem State.setPair_rate1 (s : State) (p : Pair) (q : PairState) : (s.setPair p q).rate1 = s.rate1 := rfl

@[simp] theorem State.setPair_rate0 (s : State) (p : Pair) (q : PairState) : (s.setPair p q).rate0 = s.rate0 := rfl

@[simp] theorem State.setPair_endSetting (s : State) (p : Pair) (q : PairState) :
    (s.setPair p q).endSetting = s.endSetting := rfl

@[simp] theorem State.setPair_time (s : State) (p : Pair) (q : PairState) : (s.setPair p q).time = s.time := rfl

@[simp] theorem State.setPair_port (s : State) (p : Pair) (q : PairState) : (s.setPair p q).port = s.port := rfl

@[simp] theorem State.setPair_bank (s : State) (p : Pair) (q : PairState) : (s.setPair p q).bank = s.bank := rfl

@[simp] theorem State.setPair_pointer (s : State) (p : Pair) (q : PairState) :
    (s.setPair p q).pointer = s.pointer := rfl

@[simp] theorem State.setPair_faults (s : State) (p : Pair) (q : PairState) : (s.setPair p q).faults = s.faults := rfl

@[simp] theorem State.setPair_nextFaultId (s : State) (p : Pair) (q : PairState) :
    (s.setPair p q).nextFaultId = s.nextFaultId := rfl

@[simp] theorem State.setPair_queue (s : State) (p : Pair) (q : PairState) : (s.setPair p q).queue = s.queue := rfl

/-! ### `modPair` writes the pairs -/

@[simp] theorem State.modPair_pending (s : State) (p : Pair) (f : PairState → PairState) :
    (s.modPair p f).pending = s.pending := rfl

@[simp] theorem State.modPair_inReset (s : State) (p : Pair) (f : PairState → PairState) :
    (s.modPair p f).inReset = s.inReset := rfl

@[simp] theorem State.modPair_rate1 (s : State) (p : Pair) (f : PairState → PairState) :
    (s.modPair p f).rate1 = s.rate1 := rfl

@[simp] theorem State.modPair_rate0 (s : State) (p : Pair) (f : PairState → PairState) :
    (s.modPair p f).rate0 = s.rate0 := rfl

@[simp] theorem State.modPair_endSetting (s : State) (p : Pair) (f : PairState → PairState) :
    (s.modPair p f).endSetting = s.endSetting := rfl

@[simp] theorem State.modPair_time (s : State) (p : Pair) (f : PairState → PairState) :
    (s.modPair p f).time = s.time := rfl

@[simp] theorem State.modPair_port (s : State) (p : Pair) (f : PairState → PairState) :
    (s.modPair p f).port = s.port := rfl

@[simp] theorem State.modPair_bank (s : State) (p : Pair) (f : PairState → PairState) :
    (s.modPair p f).bank = s.bank := rfl

@[simp] theorem State.modPair_pointer (s : State) (p : Pair) (f : PairState → PairState) :
    (s.modPair p f).pointer = s.pointer := rfl

@[simp] theorem State.modPair_faults (s : State) (p : Pair) (f : PairState → PairState) :
    (s.modPair p f).faults = s.faults := rfl

@[simp] theorem State.modPair_nextFaultId (s : State) (p : Pair) (f : PairState → PairState) :
    (s.modPair p f).nextFaultId = s.nextFaultId := rfl

@[simp] theorem State.modPair_queue (s : State) (p : Pair) (f : PairState → PairState) :
    (s.modPair p f).queue = s.queue := rfl

/-! ### `setPairFlag` writes the port -/

@[simp] theorem State.setPairFlag_pending (s : State) (p : Pair) (k : PairFlag) :
    (s.setPairFlag p k).pending = s.pending := rfl

@[simp] theorem State.setPairFlag_inReset (s : State) (p : Pair) (k : PairFlag) :
    (s.setPairFlag p k).inReset = s.inReset := rfl

@[simp] theorem State.setPairFlag_rate1 (s : State) (p : Pair) (k : PairFlag) :
    (s.setPairFlag p k).rate1 = s.rate1 := rfl

@[simp] theorem State.setPairFlag_rate0 (s : State) (p : Pair) (k : PairFlag) :
    (s.setPairFlag p k).rate0 = s.rate0 := rfl

@[simp] theorem State.setPairFlag_endSetting (s : State) (p : Pair) (k : PairFlag) :
    (s.setPairFlag p k).endSetting = s.endSetting := rfl

@[simp] theorem State.setPairFlag_time (s : State) (p : Pair) (k : PairFlag) : (s.setPairFlag p k).time = s.time := rfl

@[simp] theorem State.setPairFlag_pairs (s : State) (p : Pair) (k : PairFlag) :
    (s.setPairFlag p k).pairs = s.pairs := rfl

@[simp] theorem State.setPairFlag_bank (s : State) (p : Pair) (k : PairFlag) : (s.setPairFlag p k).bank = s.bank := rfl

@[simp] theorem State.setPairFlag_pointer (s : State) (p : Pair) (k : PairFlag) :
    (s.setPairFlag p k).pointer = s.pointer := rfl

@[simp] theorem State.setPairFlag_faults (s : State) (p : Pair) (k : PairFlag) :
    (s.setPairFlag p k).faults = s.faults := rfl

@[simp] theorem State.setPairFlag_nextFaultId (s : State) (p : Pair) (k : PairFlag) :
    (s.setPairFlag p k).nextFaultId = s.nextFaultId := rfl

@[simp] theorem State.setPairFlag_queue (s : State) (p : Pair) (k : PairFlag) :
    (s.setPairFlag p k).queue = s.queue := rfl

@[simp] theorem State.setPairFlag_port_rx (s : State) (p : Pair) (k : PairFlag) :
    (s.setPairFlag p k).port.rx = s.port.rx := rfl

@[simp] theorem State.setPairFlag_port_requests (s : State) (p : Pair) (k : PairFlag) :
    (s.setPairFlag p k).port.requests = s.port.requests := rfl

@[simp] theorem State.setPairFlag_port_replies (s : State) (p : Pair) (k : PairFlag) :
    (s.setPairFlag p k).port.replies = s.port.replies := rfl

@[simp] theorem State.setPairFlag_port_tx (s : State) (p : Pair) (k : PairFlag) :
    (s.setPairFlag p k).port.tx = s.port.tx := rfl

@[simp] theorem State.setPairFlag_port_mask (s : State) (p : Pair) (k : PairFlag) :
    (s.setPairFlag p k).port.mask = s.port.mask := rfl

@[simp] theorem State.setPairFlag_port_resetPhase (s : State) (p : Pair) (k : PairFlag) :
    (s.setPairFlag p k).port.resetPhase = s.port.resetPhase := rfl

@[simp] theorem State.setPairFlag_flags_pairs (s : State) (p : Pair) (k : PairFlag) :
    (s.setPairFlag p k).port.flags.pairs = s.port.flags.pairs.set p ((s.port.flags.pairs.get p).set k true) := rfl

@[simp] theorem State.setPairFlag_flags_frameError (s : State) (p : Pair) (k : PairFlag) :
    (s.setPairFlag p k).port.flags.frameError = s.port.flags.frameError := rfl

@[simp] theorem State.setPairFlag_flags_portOverrun (s : State) (p : Pair) (k : PairFlag) :
    (s.setPairFlag p k).port.flags.portOverrun = s.port.flags.portOverrun := rfl

/-- A set flag stands. -/
theorem State.setPairFlag_get_same (s : State) (p : Pair) (k : PairFlag) :
    ((s.setPairFlag p k).port.flags.pairs.get p).get k = true := by simp

/-- A flag that stood stays (R173). -/
theorem State.setPairFlag_get_mono (s : State) (p p' : Pair) (k k' : PairFlag)
    (h : (s.port.flags.pairs.get p').get k' = true) :
    ((s.setPairFlag p k).port.flags.pairs.get p').get k' = true := by
  by_cases hp : p' = p
  · subst hp
    by_cases hk : k' = k
    · subst hk
      simp
    · simp [PairFlags.get_set_other _ _ hk, h]
  · simp [PerPair.get_set_other _ _ hp, h]

/-! ### `setPartFlag` writes the port -/

@[simp] theorem State.setPartFlag_pending (s : State) (k : PartFlag) :
    (s.setPartFlag k).pending = s.pending := by cases k <;> rfl

@[simp] theorem State.setPartFlag_inReset (s : State) (k : PartFlag) :
    (s.setPartFlag k).inReset = s.inReset := by cases k <;> rfl

@[simp] theorem State.setPartFlag_rate1 (s : State) (k : PartFlag) :
    (s.setPartFlag k).rate1 = s.rate1 := by cases k <;> rfl

@[simp] theorem State.setPartFlag_rate0 (s : State) (k : PartFlag) :
    (s.setPartFlag k).rate0 = s.rate0 := by cases k <;> rfl

@[simp] theorem State.setPartFlag_endSetting (s : State) (k : PartFlag) :
    (s.setPartFlag k).endSetting = s.endSetting := by cases k <;> rfl

@[simp] theorem State.setPartFlag_time (s : State) (k : PartFlag) :
    (s.setPartFlag k).time = s.time := by cases k <;> rfl

@[simp] theorem State.setPartFlag_pairs (s : State) (k : PartFlag) :
    (s.setPartFlag k).pairs = s.pairs := by cases k <;> rfl

@[simp] theorem State.setPartFlag_bank (s : State) (k : PartFlag) :
    (s.setPartFlag k).bank = s.bank := by cases k <;> rfl

@[simp] theorem State.setPartFlag_pointer (s : State) (k : PartFlag) :
    (s.setPartFlag k).pointer = s.pointer := by cases k <;> rfl

@[simp] theorem State.setPartFlag_faults (s : State) (k : PartFlag) :
    (s.setPartFlag k).faults = s.faults := by cases k <;> rfl

@[simp] theorem State.setPartFlag_nextFaultId (s : State) (k : PartFlag) :
    (s.setPartFlag k).nextFaultId = s.nextFaultId := by cases k <;> rfl

@[simp] theorem State.setPartFlag_queue (s : State) (k : PartFlag) :
    (s.setPartFlag k).queue = s.queue := by cases k <;> rfl

@[simp] theorem State.setPartFlag_port_rx (s : State) (k : PartFlag) :
    (s.setPartFlag k).port.rx = s.port.rx := by cases k <;> rfl

@[simp] theorem State.setPartFlag_port_requests (s : State) (k : PartFlag) :
    (s.setPartFlag k).port.requests = s.port.requests := by cases k <;> rfl

@[simp] theorem State.setPartFlag_port_replies (s : State) (k : PartFlag) :
    (s.setPartFlag k).port.replies = s.port.replies := by cases k <;> rfl

@[simp] theorem State.setPartFlag_port_tx (s : State) (k : PartFlag) :
    (s.setPartFlag k).port.tx = s.port.tx := by cases k <;> rfl

@[simp] theorem State.setPartFlag_port_mask (s : State) (k : PartFlag) :
    (s.setPartFlag k).port.mask = s.port.mask := by cases k <;> rfl

@[simp] theorem State.setPartFlag_port_resetPhase (s : State) (k : PartFlag) :
    (s.setPartFlag k).port.resetPhase = s.port.resetPhase := by cases k <;> rfl

/-! ### `modFlight` writes the supervisory queue -/

@[simp] theorem State.modFlight_pending (s : State) (f : QueueEntry → QueueEntry) :
    (s.modFlight f).pending = s.pending := rfl

@[simp] theorem State.modFlight_inReset (s : State) (f : QueueEntry → QueueEntry) :
    (s.modFlight f).inReset = s.inReset := rfl

@[simp] theorem State.modFlight_rate1 (s : State) (f : QueueEntry → QueueEntry) : (s.modFlight f).rate1 = s.rate1 := rfl

@[simp] theorem State.modFlight_rate0 (s : State) (f : QueueEntry → QueueEntry) : (s.modFlight f).rate0 = s.rate0 := rfl

@[simp] theorem State.modFlight_endSetting (s : State) (f : QueueEntry → QueueEntry) :
    (s.modFlight f).endSetting = s.endSetting := rfl

@[simp] theorem State.modFlight_time (s : State) (f : QueueEntry → QueueEntry) : (s.modFlight f).time = s.time := rfl

@[simp] theorem State.modFlight_port (s : State) (f : QueueEntry → QueueEntry) : (s.modFlight f).port = s.port := rfl

@[simp] theorem State.modFlight_pairs (s : State) (f : QueueEntry → QueueEntry) : (s.modFlight f).pairs = s.pairs := rfl

@[simp] theorem State.modFlight_bank (s : State) (f : QueueEntry → QueueEntry) : (s.modFlight f).bank = s.bank := rfl

@[simp] theorem State.modFlight_pointer (s : State) (f : QueueEntry → QueueEntry) :
    (s.modFlight f).pointer = s.pointer := rfl

@[simp] theorem State.modFlight_faults (s : State) (f : QueueEntry → QueueEntry) :
    (s.modFlight f).faults = s.faults := rfl

@[simp] theorem State.modFlight_nextFaultId (s : State) (f : QueueEntry → QueueEntry) :
    (s.modFlight f).nextFaultId = s.nextFaultId := rfl

/-! ### `modFault` writes the fault list -/

@[simp] theorem State.modFault_pending (s : State) (i : Nat) (f : FaultRecord → FaultRecord) :
    (s.modFault i f).pending = s.pending := rfl

@[simp] theorem State.modFault_inReset (s : State) (i : Nat) (f : FaultRecord → FaultRecord) :
    (s.modFault i f).inReset = s.inReset := rfl

@[simp] theorem State.modFault_rate1 (s : State) (i : Nat) (f : FaultRecord → FaultRecord) :
    (s.modFault i f).rate1 = s.rate1 := rfl

@[simp] theorem State.modFault_rate0 (s : State) (i : Nat) (f : FaultRecord → FaultRecord) :
    (s.modFault i f).rate0 = s.rate0 := rfl

@[simp] theorem State.modFault_endSetting (s : State) (i : Nat) (f : FaultRecord → FaultRecord) :
    (s.modFault i f).endSetting = s.endSetting := rfl

@[simp] theorem State.modFault_time (s : State) (i : Nat) (f : FaultRecord → FaultRecord) :
    (s.modFault i f).time = s.time := rfl

@[simp] theorem State.modFault_port (s : State) (i : Nat) (f : FaultRecord → FaultRecord) :
    (s.modFault i f).port = s.port := rfl

@[simp] theorem State.modFault_pairs (s : State) (i : Nat) (f : FaultRecord → FaultRecord) :
    (s.modFault i f).pairs = s.pairs := rfl

@[simp] theorem State.modFault_bank (s : State) (i : Nat) (f : FaultRecord → FaultRecord) :
    (s.modFault i f).bank = s.bank := rfl

@[simp] theorem State.modFault_pointer (s : State) (i : Nat) (f : FaultRecord → FaultRecord) :
    (s.modFault i f).pointer = s.pointer := rfl

@[simp] theorem State.modFault_nextFaultId (s : State) (i : Nat) (f : FaultRecord → FaultRecord) :
    (s.modFault i f).nextFaultId = s.nextFaultId := rfl

@[simp] theorem State.modFault_queue (s : State) (i : Nat) (f : FaultRecord → FaultRecord) :
    (s.modFault i f).queue = s.queue := rfl

/-! ### `setRole` writes the pairs and the port -/

@[simp] theorem State.setRole_pending (s : State) (p : Pair) (r : Role) (c : RoleCause) :
    (s.setRole p r c).pending = s.pending := rfl

@[simp] theorem State.setRole_inReset (s : State) (p : Pair) (r : Role) (c : RoleCause) :
    (s.setRole p r c).inReset = s.inReset := rfl

@[simp] theorem State.setRole_rate1 (s : State) (p : Pair) (r : Role) (c : RoleCause) :
    (s.setRole p r c).rate1 = s.rate1 := rfl

@[simp] theorem State.setRole_rate0 (s : State) (p : Pair) (r : Role) (c : RoleCause) :
    (s.setRole p r c).rate0 = s.rate0 := rfl

@[simp] theorem State.setRole_endSetting (s : State) (p : Pair) (r : Role) (c : RoleCause) :
    (s.setRole p r c).endSetting = s.endSetting := rfl

@[simp] theorem State.setRole_time (s : State) (p : Pair) (r : Role) (c : RoleCause) :
    (s.setRole p r c).time = s.time := rfl

@[simp] theorem State.setRole_bank (s : State) (p : Pair) (r : Role) (c : RoleCause) :
    (s.setRole p r c).bank = s.bank := rfl

@[simp] theorem State.setRole_pointer (s : State) (p : Pair) (r : Role) (c : RoleCause) :
    (s.setRole p r c).pointer = s.pointer := rfl

@[simp] theorem State.setRole_faults (s : State) (p : Pair) (r : Role) (c : RoleCause) :
    (s.setRole p r c).faults = s.faults := rfl

@[simp] theorem State.setRole_nextFaultId (s : State) (p : Pair) (r : Role) (c : RoleCause) :
    (s.setRole p r c).nextFaultId = s.nextFaultId := rfl

@[simp] theorem State.setRole_queue (s : State) (p : Pair) (r : Role) (c : RoleCause) :
    (s.setRole p r c).queue = s.queue := rfl

@[simp] theorem State.pair_setRole_same (s : State) (p : Pair) (r : Role) (c : RoleCause) :
    (s.setRole p r c).pair p =
      { s.pair p with role := r, lastRole := some ⟨(s.pair p).role.name, r.name, c, s.now⟩ } := by simp [State.setRole]

theorem State.pair_setRole_other (s : State) {p p' : Pair} (r : Role) (c : RoleCause) (h : p' ≠ p) :
    (s.setRole p r c).pair p' = s.pair p' := by simp [State.setRole, State.pair_modPair_other _ _ h]

/-! ### `answer` writes the reply queue -/

@[simp] theorem State.answer_pending (s : State) (typ tag : Byte) (a : Answer) :
    (State.answer typ tag (s, a)).pending = s.pending := rfl

@[simp] theorem State.answer_inReset (s : State) (typ tag : Byte) (a : Answer) :
    (State.answer typ tag (s, a)).inReset = s.inReset := rfl

@[simp] theorem State.answer_rate1 (s : State) (typ tag : Byte) (a : Answer) :
    (State.answer typ tag (s, a)).rate1 = s.rate1 := rfl

@[simp] theorem State.answer_rate0 (s : State) (typ tag : Byte) (a : Answer) :
    (State.answer typ tag (s, a)).rate0 = s.rate0 := rfl

@[simp] theorem State.answer_endSetting (s : State) (typ tag : Byte) (a : Answer) :
    (State.answer typ tag (s, a)).endSetting = s.endSetting := rfl

@[simp] theorem State.answer_time (s : State) (typ tag : Byte) (a : Answer) :
    (State.answer typ tag (s, a)).time = s.time := rfl

@[simp] theorem State.answer_pairs (s : State) (typ tag : Byte) (a : Answer) :
    (State.answer typ tag (s, a)).pairs = s.pairs := rfl

@[simp] theorem State.answer_bank (s : State) (typ tag : Byte) (a : Answer) :
    (State.answer typ tag (s, a)).bank = s.bank := rfl

@[simp] theorem State.answer_pointer (s : State) (typ tag : Byte) (a : Answer) :
    (State.answer typ tag (s, a)).pointer = s.pointer := rfl

@[simp] theorem State.answer_faults (s : State) (typ tag : Byte) (a : Answer) :
    (State.answer typ tag (s, a)).faults = s.faults := rfl

@[simp] theorem State.answer_nextFaultId (s : State) (typ tag : Byte) (a : Answer) :
    (State.answer typ tag (s, a)).nextFaultId = s.nextFaultId := rfl

@[simp] theorem State.answer_queue (s : State) (typ tag : Byte) (a : Answer) :
    (State.answer typ tag (s, a)).queue = s.queue := rfl

@[simp] theorem State.answer_port_rx (s : State) (typ tag : Byte) (a : Answer) :
    (State.answer typ tag (s, a)).port.rx = s.port.rx := rfl

@[simp] theorem State.answer_port_requests (s : State) (typ tag : Byte) (a : Answer) :
    (State.answer typ tag (s, a)).port.requests = s.port.requests := rfl

@[simp] theorem State.answer_port_tx (s : State) (typ tag : Byte) (a : Answer) :
    (State.answer typ tag (s, a)).port.tx = s.port.tx := rfl

@[simp] theorem State.answer_port_flags (s : State) (typ tag : Byte) (a : Answer) :
    (State.answer typ tag (s, a)).port.flags = s.port.flags := rfl

@[simp] theorem State.answer_port_mask (s : State) (typ tag : Byte) (a : Answer) :
    (State.answer typ tag (s, a)).port.mask = s.port.mask := rfl

@[simp] theorem State.answer_port_noticePending (s : State) (typ tag : Byte) (a : Answer) :
    (State.answer typ tag (s, a)).port.noticePending = s.port.noticePending := rfl

@[simp] theorem State.answer_port_resetPhase (s : State) (typ tag : Byte) (a : Answer) :
    (State.answer typ tag (s, a)).port.resetPhase = s.port.resetPhase := rfl

@[simp] theorem State.answer_port_replies (s : State) (typ tag : Byte) (a : Answer) :
    (State.answer typ tag (s, a)).port.replies = s.port.replies ++ [a.frame typ tag] := rfl

@[simp] theorem State.pair_answer (s : State) (typ tag : Byte) (a : Answer) (p : Pair) :
    (State.answer typ tag (s, a)).pair p = s.pair p := rfl

/-! ### `silence` writes the tone field and the chip field -/

@[simp] theorem PairState.silence_config (q : PairState) : q.silence.config = q.config := rfl

@[simp] theorem PairState.silence_role (q : PairState) : q.silence.role = q.role := rfl

@[simp] theorem PairState.silence_lastRole (q : PairState) : q.silence.lastRole = q.lastRole := rfl

@[simp] theorem PairState.silence_clock (q : PairState) : q.silence.clock = q.clock := rfl

@[simp] theorem PairState.silence_inputs (q : PairState) : q.silence.inputs = q.inputs := rfl

@[simp] theorem PairState.silence_det (q : PairState) : q.silence.det = q.det := rfl

@[simp] theorem PairState.silence_injected (q : PairState) : q.silence.injected = q.injected := rfl

@[simp] theorem PairState.silence_source (q : PairState) : q.silence.source = q.source := rfl

@[simp] theorem PairState.silence_records (q : PairState) : q.silence.records = q.records := rfl

@[simp] theorem PairState.silence_sweep (q : PairState) : q.silence.sweep = q.sweep := rfl

@[simp] theorem PairState.silence_sweepNumber (q : PairState) : q.silence.sweepNumber = q.sweepNumber := rfl

@[simp] theorem PairState.silence_published (q : PairState) : q.silence.published = q.published := rfl

@[simp] theorem PairState.silence_readout (q : PairState) : q.silence.readout = q.readout := rfl

@[simp] theorem PairState.silence_cursor (q : PairState) : q.silence.cursor = q.cursor := rfl

@[simp] theorem PairState.silence_learn (q : PairState) : q.silence.learn = q.learn := rfl

@[simp] theorem PairState.silence_hold (q : PairState) : q.silence.hold = q.hold := rfl

@[simp] theorem PairState.silence_lastLearn (q : PairState) : q.silence.lastLearn = q.lastLearn := rfl

@[simp] theorem PairState.silence_tone (q : PairState) : q.silence.tone = ⟨.free, []⟩ := rfl

@[simp] theorem PairState.silence_probeOn (q : PairState) : q.silence.probeOn = false := rfl

/-! ### `beginChip` writes the synthetic sample and the chip field -/

@[simp] theorem PairState.beginChip_config (q : PairState) : q.beginChip.config = q.config := rfl

@[simp] theorem PairState.beginChip_role (q : PairState) : q.beginChip.role = q.role := rfl

@[simp] theorem PairState.beginChip_lastRole (q : PairState) : q.beginChip.lastRole = q.lastRole := rfl

@[simp] theorem PairState.beginChip_clock (q : PairState) : q.beginChip.clock = q.clock := rfl

@[simp] theorem PairState.beginChip_tone (q : PairState) : q.beginChip.tone = q.tone := rfl

@[simp] theorem PairState.beginChip_inputs (q : PairState) : q.beginChip.inputs = q.inputs := rfl

@[simp] theorem PairState.beginChip_det (q : PairState) : q.beginChip.det = q.det := rfl

@[simp] theorem PairState.beginChip_injected (q : PairState) : q.beginChip.injected = q.injected := rfl

@[simp] theorem PairState.beginChip_records (q : PairState) : q.beginChip.records = q.records := rfl

@[simp] theorem PairState.beginChip_sweep (q : PairState) : q.beginChip.sweep = q.sweep := rfl

@[simp] theorem PairState.beginChip_sweepNumber (q : PairState) : q.beginChip.sweepNumber = q.sweepNumber := rfl

@[simp] theorem PairState.beginChip_published (q : PairState) : q.beginChip.published = q.published := rfl

@[simp] theorem PairState.beginChip_readout (q : PairState) : q.beginChip.readout = q.readout := rfl

@[simp] theorem PairState.beginChip_cursor (q : PairState) : q.beginChip.cursor = q.cursor := rfl

@[simp] theorem PairState.beginChip_learn (q : PairState) : q.beginChip.learn = q.learn := rfl

@[simp] theorem PairState.beginChip_hold (q : PairState) : q.beginChip.hold = q.hold := rfl

@[simp] theorem PairState.beginChip_lastLearn (q : PairState) : q.beginChip.lastLearn = q.lastLearn := rfl

end Sys2Proof.Machine
end

