-- ==== Sys2Proof/Laws/Ops.lean ====
section
/-! SUPPORT. For each shared operation one lemma that says everything it can do, to be cited instead of unfolding it. -/

namespace Sys2Proof.Machine

/-! ### Lists -/

theorem modFirst_of_split {α : Type} {fits : α → Bool} (f : α → α) {before : List α} {x : α} (after : List α)
    (hb : ∀ y ∈ before, fits y = false) (hx : fits x = true) :
    modFirst fits f (before ++ x :: after) = before ++ f x :: after := by
  induction before with
  | nil => simp [modFirst, hx]
  | cons y ys ih =>
    have hy : fits y = false := hb y (by simp)
    simp [modFirst, hy, ih fun z hz => hb z (by simp [hz])]

theorem dropFirst_of_split {α : Type} {fits : α → Bool} {before : List α} {x : α} (after : List α)
    (hb : ∀ y ∈ before, fits y = false) (hx : fits x = true) :
    dropFirst fits (before ++ x :: after) = before ++ after := by
  induction before with
  | nil => simp [dropFirst, hx]
  | cons y ys ih =>
    have hy : fits y = false := hb y (by simp)
    simp [dropFirst, hy, ih fun z hz => hb z (by simp [hz])]

theorem modFirst_of_none {α : Type} {fits : α → Bool} (f : α → α) {xs : List α} (h : ∀ y ∈ xs, fits y = false) :
    modFirst fits f xs = xs := by
  induction xs with
  | nil => rfl
  | cons y ys ih =>
    have hy : fits y = false := h y (by simp)
    simp [modFirst, hy, ih fun z hz => h z (by simp [hz])]

@[simp] theorem length_modFirst {α : Type} (fits : α → Bool) (f : α → α) (xs : List α) :
    (modFirst fits f xs).length = xs.length := by
  induction xs with
  | nil => rfl
  | cons y ys ih => by_cases h : fits y = true <;> simp [modFirst, h, ih]

theorem find_of_split {α : Type} {fits : α → Bool} {before : List α} {x : α} (after : List α)
    (hb : ∀ y ∈ before, fits y = false) (hx : fits x = true) : (before ++ x :: after).find? fits = some x := by
  induction before with
  | nil => simp [hx]
  | cons y ys ih =>
    have hy : fits y = false := hb y (by simp)
    simp [hy, ih fun z hz => hb z (by simp [hz])]

/-! ### Pair numbers -/

@[simp] theorem pairOf_pairByte (p : Pair) : pairOf (pairByte p) = some p := by cases p <;> decide

theorem pairOf_bad {b : Byte} (h : b = 0 ∨ 4 < b.toNat) : pairOf b = none := by
  unfold pairOf
  rcases h with rfl | h
  · rfl
  · split <;> first | rfl | omega

@[simp] theorem withPair_pairByte (p : Pair) (f : Pair → State → State × Answer) (s : State) :
    withPair (pairByte p) f s = f p s := by simp [withPair]

theorem withPair_bad {b : Byte} (h : b = 0 ∨ 4 < b.toNat) (f : Pair → State → State × Answer) (s : State) :
    withPair b f s = (s, ⟨.badValue, [0, 0]⟩) := by simp [withPair, pairOf_bad h, Answer.refused]

/-! ### The transmitter -/

/-- Everything the choice of the next frame can do: nothing, or one of the three frames begun (R172). -/
theorem State.transmit_cases (s : State) :
    s.transmit = s
    ∨ (∃ f rest, s.port.tx = .idle ∧ s.port.replies = f :: rest
        ∧ s.transmit = { s with port := { s.port with tx := .sending .reply f 0 } })
    ∨ (s.port.tx = .idle ∧ s.port.replies = [] ∧ s.port.noticePending = true
        ∧ s.transmit = { s with port := { s.port with
            tx := .sending .eventNotice (eventNotice s) 0, noticePending := false } })
    ∨ ∃ e, s.port.tx = .idle ∧ s.port.replies = [] ∧ s.port.noticePending = false
        ∧ s.queue.find? QueueEntry.noticeDue = some e
        ∧ s.transmit = { s with
            port := { s.port with tx := .sending .resultNotice (resultNotice e) 0 }
            queue := modFirst QueueEntry.noticeDue QueueEntry.beginNotice s.queue } := by
  unfold State.transmit
  split
  case isFalse => exact .inl rfl
  case isTrue h =>
    split
    case h_1 f rest hr => exact .inr (.inl ⟨f, rest, h.1, hr, rfl⟩)
    case h_2 hr =>
      split
      case isTrue hn => exact .inr (.inr (.inl ⟨h.1, hr, hn, rfl⟩))
      case isFalse hn =>
        split
        case h_1 e he => exact .inr (.inr (.inr ⟨e, h.1, hr, by simpa using hn, he, rfl⟩))
        case h_2 => exact .inl rfl

@[simp] theorem State.transmit_pending (s : State) : s.transmit.pending = s.pending := by
  rcases s.transmit_cases with h | ⟨_, _, _, _, h⟩ | ⟨_, _, _, h⟩ | ⟨_, _, _, _, _, h⟩ <;> rw [h]

@[simp] theorem State.transmit_inReset (s : State) : s.transmit.inReset = s.inReset := by
  rcases s.transmit_cases with h | ⟨_, _, _, _, h⟩ | ⟨_, _, _, h⟩ | ⟨_, _, _, _, _, h⟩ <;> rw [h]

@[simp] theorem State.transmit_rate1 (s : State) : s.transmit.rate1 = s.rate1 := by
  rcases s.transmit_cases with h | ⟨_, _, _, _, h⟩ | ⟨_, _, _, h⟩ | ⟨_, _, _, _, _, h⟩ <;> rw [h]

@[simp] theorem State.transmit_rate0 (s : State) : s.transmit.rate0 = s.rate0 := by
  rcases s.transmit_cases with h | ⟨_, _, _, _, h⟩ | ⟨_, _, _, h⟩ | ⟨_, _, _, _, _, h⟩ <;> rw [h]

@[simp] theorem State.transmit_endSetting (s : State) : s.transmit.endSetting = s.endSetting := by
  rcases s.transmit_cases with h | ⟨_, _, _, _, h⟩ | ⟨_, _, _, h⟩ | ⟨_, _, _, _, _, h⟩ <;> rw [h]

@[simp] theorem State.transmit_time (s : State) : s.transmit.time = s.time := by
  rcases s.transmit_cases with h | ⟨_, _, _, _, h⟩ | ⟨_, _, _, h⟩ | ⟨_, _, _, _, _, h⟩ <;> rw [h]

@[simp] theorem State.transmit_pairs (s : State) : s.transmit.pairs = s.pairs := by
  rcases s.transmit_cases with h | ⟨_, _, _, _, h⟩ | ⟨_, _, _, h⟩ | ⟨_, _, _, _, _, h⟩ <;> rw [h]

@[simp] theorem State.transmit_bank (s : State) : s.transmit.bank = s.bank := by
  rcases s.transmit_cases with h | ⟨_, _, _, _, h⟩ | ⟨_, _, _, h⟩ | ⟨_, _, _, _, _, h⟩ <;> rw [h]

@[simp] theorem State.transmit_pointer (s : State) : s.transmit.pointer = s.pointer := by
  rcases s.transmit_cases with h | ⟨_, _, _, _, h⟩ | ⟨_, _, _, h⟩ | ⟨_, _, _, _, _, h⟩ <;> rw [h]

@[simp] theorem State.transmit_faults (s : State) : s.transmit.faults = s.faults := by
  rcases s.transmit_cases with h | ⟨_, _, _, _, h⟩ | ⟨_, _, _, h⟩ | ⟨_, _, _, _, _, h⟩ <;> rw [h]

@[simp] theorem State.transmit_nextFaultId (s : State) : s.transmit.nextFaultId = s.nextFaultId := by
  rcases s.transmit_cases with h | ⟨_, _, _, _, h⟩ | ⟨_, _, _, h⟩ | ⟨_, _, _, _, _, h⟩ <;> rw [h]

@[simp] theorem State.transmit_port_rx (s : State) : s.transmit.port.rx = s.port.rx := by
  rcases s.transmit_cases with h | ⟨_, _, _, _, h⟩ | ⟨_, _, _, h⟩ | ⟨_, _, _, _, _, h⟩ <;> rw [h]

@[simp] theorem State.transmit_port_requests (s : State) : s.transmit.port.requests = s.port.requests := by
  rcases s.transmit_cases with h | ⟨_, _, _, _, h⟩ | ⟨_, _, _, h⟩ | ⟨_, _, _, _, _, h⟩ <;> rw [h]

@[simp] theorem State.transmit_port_replies (s : State) : s.transmit.port.replies = s.port.replies := by
  rcases s.transmit_cases with h | ⟨_, _, _, _, h⟩ | ⟨_, _, _, h⟩ | ⟨_, _, _, _, _, h⟩ <;> rw [h]

@[simp] theorem State.transmit_port_flags (s : State) : s.transmit.port.flags = s.port.flags := by
  rcases s.transmit_cases with h | ⟨_, _, _, _, h⟩ | ⟨_, _, _, h⟩ | ⟨_, _, _, _, _, h⟩ <;> rw [h]

@[simp] theorem State.transmit_port_mask (s : State) : s.transmit.port.mask = s.port.mask := by
  rcases s.transmit_cases with h | ⟨_, _, _, _, h⟩ | ⟨_, _, _, h⟩ | ⟨_, _, _, _, _, h⟩ <;> rw [h]

@[simp] theorem State.transmit_port_resetPhase (s : State) : s.transmit.port.resetPhase = s.port.resetPhase := by
  rcases s.transmit_cases with h | ⟨_, _, _, _, h⟩ | ⟨_, _, _, h⟩ | ⟨_, _, _, _, _, h⟩ <;> rw [h]

@[simp] theorem State.pair_transmit (s : State) (p : Pair) : s.transmit.pair p = s.pair p := by simp [State.pair]

@[simp] theorem State.transmit_queue_length (s : State) : s.transmit.queue.length = s.queue.length := by
  rcases s.transmit_cases with h | ⟨_, _, _, _, h⟩ | ⟨_, _, _, h⟩ | ⟨_, _, _, _, _, h⟩ <;> rw [h]
  exact length_modFirst _ _ _

/-- The transmitter chooses once: a second choice at the same moment finds nothing more to begin. -/
@[simp] theorem State.transmit_transmit (s : State) : s.transmit.transmit = s.transmit := by
  rcases s.transmit_cases with h | ⟨_, _, _, _, h⟩ | ⟨_, _, _, h⟩ | ⟨_, _, _, _, _, h⟩ <;>
    first
      | (rw [h]; exact h)
      | (rw [h]; simp [State.transmit])

/-! ### The receiver: what one byte at the front can do (R168, R169) -/

theorem State.receive_drop {b : HeldByte} (h : b.byte ≠ 0xA5) (fuel : Nat) (rest : List HeldByte) (s : State) :
    State.receive (fuel + 1) (b :: rest) s = State.receive fuel rest s := by
  rw [State.receive, if_pos h]

theorem State.receive_bad {b : HeldByte} {rest : List HeldByte} (h : b.byte = 0xA5)
    (ha : assemble (rest.map (·.byte)) = .bad) (fuel : Nat) (s : State) :
    State.receive (fuel + 1) (b :: rest) s = State.receive fuel rest s.discardFrame := by simp [State.receive, h, ha]

theorem State.receive_good {b : HeldByte} {rest : List HeldByte} {f : Frame} {used : Nat} (h : b.byte = 0xA5)
    (ha : assemble (rest.map (·.byte)) = .good f used) (fuel : Nat) (s : State) :
    State.receive (fuel + 1) (b :: rest) s = State.receive fuel (rest.drop (used - 1)) (s.completeFrame f) := by
  simp [State.receive, h, ha]

theorem State.receive_hold {b : HeldByte} {rest : List HeldByte} (h : b.byte = 0xA5)
    (ha : assemble (rest.map (·.byte)) = .incomplete) (hage : b.age < Config.maxFrameAge) (fuel : Nat) (s : State) :
    State.receive (fuel + 1) (b :: rest) s = { s with port := { s.port with rx := b :: rest } } := by
  simp [State.receive, h, ha, Nat.not_le.mpr hage]

theorem State.receive_expired {b : HeldByte} {rest : List HeldByte} (h : b.byte = 0xA5)
    (ha : assemble (rest.map (·.byte)) = .incomplete) (hage : Config.maxFrameAge ≤ b.age) (fuel : Nat) (s : State) :
    State.receive (fuel + 1) (b :: rest) s = State.receive fuel rest s.discardFrame := by
  simp [State.receive, h, ha, hage]

/-- The stop bits play no part in what the receiver takes (R167). -/
@[simp] theorem fresh_bytes (cs : List Character) : (fresh cs).map (·.byte) = cs.map (·.data) := by simp [fresh]

/-! ### The serial line (R167) -/

@[simp] theorem characterBits_length (b : Byte) : (characterBits b).length = 10 := by simp [characterBits]

theorem wire_length (f : Frame) : f.wire.length = f.payload.length + 7 := by simp [Frame.wire, Frame.body, be16]

/-- Ten bits for each byte of a frame, which is what the end of its sending waits for. -/
@[simp] theorem frameBits_length (f : Frame) : (frameBits f).length = (f.payload.length + 7) * 10 := by
  simp [frameBits, List.length_flatMap, wire_length]

theorem State.txd_idle {s : State} (h : s.port.tx = .idle) : s.txd = .idle := by simp [State.txd, h]

theorem State.txd_sending {s : State} {kind : SentKind} {f : Frame} {n : Nat} (h : s.port.tx = .sending kind f n) :
    s.txd = (frameBits f).getD (s.bitTimes n) .idle := by simp [State.txd, h]

/-! ### How a command acts -/

theorem live_running {s : State} (h : s.inReset = false) (f : State → State) : live s f = .next (f s).transmit := by
  simp [live, h]

theorem live_held {s : State} (h : s.inReset = true) (f : State → State) : live s f = .next s := by simp [live, h]

/-- A request that a ready part receives is taken: its owner acts and its reply joins the reply queue (R171). -/
theorem request_ready {s : State} (h : s.Ready) (tag : Byte) {r : Request} (hf : r.fits = true)
    (owner : State → State × Answer) :
    request tag r owner s = .next (State.answer r.typ tag (owner s)).transmit := by
  have hm : s.mayTake = true := by simp [State.mayTake, h.room, h.noReset, Config.maxReplies]
  simp [request, live, h.running, hm, h.noRequest, State.handleWith, hf]

/-- The end of a request, as the statements write it. -/
theorem answer_transmit_eq (s : State) (typ tag : Byte) (a : Answer) :
    (State.answer typ tag (s, a)).transmit = s.replied (typ + 0x80) tag (a.status.code :: a.data) := rfl

/-! ### The exchange in flight -/

theorem State.flight_of_split {s : State} {before after : List QueueEntry} {e : QueueEntry}
    (hq : s.queue = before ++ e :: after) (hb : ∀ x ∈ before, x.isInFlight = false) (he : e.isInFlight = true) :
    s.flight = some e := by simp [State.flight, hq, find_of_split after hb he]

theorem State.modFlight_of_split {s : State} {before after : List QueueEntry} {e : QueueEntry}
    (f : QueueEntry → QueueEntry) (hq : s.queue = before ++ e :: after) (hb : ∀ x ∈ before, x.isInFlight = false)
    (he : e.isInFlight = true) : s.modFlight f = { s with queue := before ++ (f e) :: after } := by
  simp [State.modFlight, hq, modFirst_of_split f after hb he]

theorem QueueEntry.withPhase_inFlight {e : QueueEntry} {c : Captured} {ph : Phase} (h : e.state = .inFlight c ph)
    (ph' : Phase) : e.withPhase ph' = { e with state := .inFlight c ph' } := by simp [QueueEntry.withPhase, h]

/-- The start decision: nothing, or the oldest eligible entry starts and asks for its pair's tone field (R117, R119). -/
theorem State.startNext_cases (s : State) :
    s.startNext = s
    ∨ ∃ e, s.flight = none ∧ s.queue.find? s.eligible = some e
        ∧ s.startNext = ({ s with
            queue := modFirst s.eligible (fun e => e.start ((s.pair e.pair).capture e.index)) s.queue } :
          State).askTone e.pair := by
  unfold State.startNext
  split
  case isTrue => exact .inl rfl
  case isFalse h =>
    split
    case h_1 e he => exact .inr ⟨e, by simpa using h, he, rfl⟩
    case h_2 => exact .inl rfl

/-- An attempt that asks for the tone field: begun when the field is free, waiting for it otherwise (R7, R119). -/
theorem State.askTone_cases (s : State) (p : Pair) :
    ((s.pair p).tone.use = .free
      ∧ s.askTone p = (s.modPair p fun q => { q with tone := { q.tone with use := .commandFrame } }).beginTransmission)
    ∨ ((s.pair p).tone.use ≠ .free
      ∧ s.askTone p = (s.modPair p fun q =>
          { q with tone := { q.tone with waiting := q.tone.waiting ++ [.commandFrame] } }).modFlight
            fun e => e.withPhase .toneWait) := by
  unfold State.askTone
  split
  case isTrue h => exact .inl ⟨h, rfl⟩
  case isFalse h => exact .inr ⟨h, rfl⟩

/-- A tone field that is let go: free, or granted to the first that waits (R7). -/
theorem State.releaseTone_cases (s : State) (p : Pair) :
    ((s.pair p).tone.waiting = [] ∧ s.releaseTone p = s.modPair p fun q => { q with tone := ⟨.free, []⟩ })
    ∨ (∃ rest, (s.pair p).tone.waiting = .keepBurst :: rest
        ∧ s.releaseTone p = s.modPair p fun q => { q with tone := ⟨.keepBurst 0, rest⟩ })
    ∨ ∃ rest, (s.pair p).tone.waiting = .commandFrame :: rest
        ∧ s.releaseTone p = (s.modPair p fun q => { q with tone := ⟨.commandFrame, rest⟩ }).beginTransmission := by
  unfold State.releaseTone
  split
  case h_1 h => exact .inl ⟨h, rfl⟩
  case h_2 rest h => exact .inr (.inl ⟨rest, h, rfl⟩)
  case h_3 rest h => exact .inr (.inr ⟨rest, h, rfl⟩)

/-! ### Fault records -/

/-- With distinct ids an update of the record that an id finds is the new record in its place. -/
theorem State.modFault_eq_putFault {s : State} {id : Nat} {r : FaultRecord} (hd : (s.faults.map (·.id)).Nodup)
    (hr : s.faultAt id = some r) (f : FaultRecord → FaultRecord) (hf : (f r).id = r.id) :
    s.modFault id f = s.putFault (f r) := by
  have hid : r.id = id := by simpa using List.find?_some hr
  have hm : r ∈ s.faults := List.mem_of_find?_eq_some hr
  simp only [State.modFault, State.putFault, hf]
  congr 1
  refine List.map_congr_left fun x hx => ?_
  by_cases h : x.id = id
  · obtain rfl : x = r := List.inj_on_of_nodup_map hd hx hm (h.trans hid.symm)
    simp [h]
  · simp [h, hid]

/-! ### Sweeps and the bank -/

/-- The arbiter: nothing, or an IDLE bank granted to the first pair from the pointer on that is PASS READY (R69). -/
theorem State.arbitrate_cases (s : State) :
    s.arbitrate = s
    ∨ ∃ p w, s.bank = .idle ∧ (cyclicFrom s.pointer).find? (fun p => (s.pair p).passReady) = some p
        ∧ (s.pair p).sweep = some w
        ∧ s.arbitrate = { s.setPair p { s.pair p with sweep := some { w with stage := .inBank } } with
            bank := .armed (loadPass p (s.pair p).config.periods w.currentPass)
            pointer := nextPair p } := by
  unfold State.arbitrate
  split
  case isFalse => exact .inl rfl
  case isTrue hb =>
    split
    case h_2 => exact .inl rfl
    case h_1 p hp =>
      cases hw : (s.pair p).sweep with
      | some w => exact .inr ⟨p, w, hb, hp, hw, by simp only [State.grant, hw]⟩
      | none => exact .inl (by simp only [State.grant, hw])

/-- Planning: nothing, or a fresh sweep for a pair that is NO SWEEP and may sweep (R66). -/
theorem State.planSweep_cases (s : State) (await : Bool) (p : Pair) :
    s.planSweep await p = s
    ∨ ((s.pair p).sweep = none ∧ (s.pair p).maySweep = true
        ∧ s.planSweep await p = s.setPair p { s.pair p with sweep := some ((s.pair p).newSweep await) }) := by
  unfold State.planSweep
  dsimp only
  split
  case isTrue h =>
    simp only [Bool.and_eq_true, Option.isNone_iff_eq_none] at h
    exact .inr ⟨h.1, h.2, rfl⟩
  case isFalse => exact .inl rfl

/-- Abandonment: nothing for a pair without a sweep or with its completion due, else the pass aborted and the sweep gone
(R71, R73). -/
theorem State.abandonSweep_cases (s : State) (p : Pair) :
    s.abandonSweep p = s
    ∨ ∃ w, (s.pair p).sweep = some w ∧ (∀ x, w.stage ≠ .completing x)
        ∧ s.abandonSweep p = (s.abortPass p).modPair p fun q => { q with sweep := none } := by
  unfold State.abandonSweep
  split
  case h_2 => exact .inl rfl
  case h_1 w hw =>
    split
    case h_1 => exact .inl rfl
    case h_2 h => exact .inr ⟨w, hw, h, rfl⟩

/-- A completion that is due is taken in full and the transmitter chooses; nothing happens otherwise (R73). -/
theorem State.takeCompletion_cases (s : State) (p : Pair) :
    ((s.pair p).completionDue = false ∧ s.takeCompletion p = s)
    ∨ ∃ w stamp, (s.pair p).sweep = some w ∧ w.stage = .completing stamp
        ∧ s.takeCompletion p = ((s.stages p w stamp).leaveBank p).transmit := by
  unfold State.takeCompletion State.finishSweep PairState.completionDue
  cases hw : (s.pair p).sweep with
  | none => exact .inl ⟨rfl, rfl⟩
  | some w =>
    cases hs : w.stage with
    | ready => exact .inl (by simp [hs])
    | inBank => exact .inl (by simp [hs])
    | completing stamp => exact .inr ⟨w, stamp, rfl, hs, by simp [hs]⟩

@[simp] theorem State.takeCompletion_of_not_due {s : State} {p : Pair} (h : (s.pair p).completionDue = false) :
    s.takeCompletion p = s := by simp [State.takeCompletion, h]

/-- What the statements call a keep order is what the operation does to the tone field (R7). -/
theorem State.orderKeep_eq (s : State) (p : Pair) :
    s.orderKeep p = s.modPair p fun q => { q with tone := keepOrdered q.tone } := by
  unfold State.orderKeep
  congr 1
  funext ⟨_, _, _, _, _, ⟨u, ws⟩, _, _, _, _, _, _, _, _, _, _, _, _, _⟩
  cases u <;> by_cases hk : ToneAsker.keepBurst ∈ ws <;> simp [ToneField.hasKeep, keepOrdered, hk]

/-- A tone field let go without a command frame waiting for it (R7). -/
theorem State.releaseTone_eq {s : State} {p : Pair} (h : ∀ rest, (s.pair p).tone.waiting ≠ .commandFrame :: rest) :
    s.releaseTone p = s.modPair p fun q => { q with tone := toneReleased q.tone } := by
  rcases s.releaseTone_cases p with ⟨hw, e⟩ | ⟨rest, hw, e⟩ | ⟨rest, hw, _⟩
  · simp [e, State.modPair, toneReleased, hw]
  · simp [e, State.modPair, toneReleased, hw]
  · exact absurd hw (h rest)

/-- An abort: nothing for another pair's pass, else the bank IDLE (R41). -/
theorem State.abortPass_cases (s : State) (p : Pair) :
    (s.bank.holder ≠ some p ∧ s.abortPass p = s) ∨ (s.bank.holder = some p ∧ s.abortPass p = { s with bank := .idle }) := by
  unfold State.abortPass
  split
  case isTrue h => exact .inr ⟨h, rfl⟩
  case isFalse h => exact .inl ⟨h, rfl⟩

/-! ### Roles and learning -/

/-- The quiet guard: the pair stays YIELDING with its items, or the yield ends (R161, R162). -/
theorem State.setGuard_cases (s : State) (p : Pair) (m : YieldMode) (pass exchange : Bool) :
    ((pass || exchange) = true
      ∧ s.setGuard p m pass exchange = s.modPair p fun q => { q with role := .yielding m pass exchange })
    ∨ (pass = false ∧ exchange = false ∧ s.setGuard p m pass exchange = s.finishYield p) := by
  unfold State.setGuard
  split
  case isTrue h => exact .inl ⟨h, rfl⟩
  case isFalse h =>
    simp only [Bool.or_eq_true, not_or, Bool.not_eq_true] at h
    exact .inr ⟨h.1, h.2, rfl⟩

/-- Abandoned learning: nothing when IDLE, else the sums cleared, the hold off, the cause recorded and LEARN DONE set
(R110). -/
theorem State.abandonLearning_cases (s : State) (p : Pair) (cause : LearnCause) :
    ((s.pair p).learn = .idle ∧ s.abandonLearning p cause = s)
    ∨ ((s.pair p).learn ≠ .idle
      ∧ s.abandonLearning p cause = (s.setPair p { s.pair p with
          records := (s.pair p).records.map RepeaterRecord.clearLearn
          hold := false
          lastLearn := .abandoned cause (s.pair p).sweepNumber s.now
          learn := .idle }).setPairFlag p .learnDone) := by
  unfold State.abandonLearning
  split
  case isTrue h => exact .inl ⟨h, rfl⟩
  case isFalse h => exact .inr ⟨h, rfl⟩

/-- A step's command: enqueued with the step it stands for, or the step WAITING FOR QUEUE (R115, R141). -/
theorem State.enqueueStep_cases (s : State) (r : FaultRecord) (c : Command) (n : Nat) (f : CommandStep) :
    (s.queue.length < 8 ∧ s.enqueueStep r c n f =
      ({ s with queue := s.queue ++ [⟨.waiting, .fault r.id, r.pair, r.first, c, n, (s.pair r.pair).config.retries, 0⟩] } :
        State).modFault r.id (·.modAction fun a => { a with step := f.step }))
    ∨ (8 ≤ s.queue.length
      ∧ s.enqueueStep r c n f = s.modFault r.id (·.modAction fun a => { a with step := .waitingForQueue c n f })) := by
  unfold State.enqueueStep
  split
  case isTrue h => exact .inl ⟨of_decide_eq_true h, rfl⟩
  case isFalse h => exact .inr ⟨Nat.le_of_not_lt fun x => h (decide_eq_true x), rfl⟩

end Sys2Proof.Machine
end

