-- ==== Sys2Proof/Tests/Slice0.lean ====
section
/-! SUPPORT. Tests. Expected values are the manual's worked examples or counted by hand from its rules; the witnesses show,
for each statement with hypotheses, concrete states and operands that meet them, clause by clause. -/

namespace Sys2Proof.Tests

open Sys2Proof Sys2Proof.Machine

/-! ### Helpers -/

/-- The machine after reset with pair 1 changed. -/
def onOne (f : PairState → PairState) : State := State.reset.modPair .one f

def inRole (r : Role) : State := onOne fun q => { q with role := r }

theorem ready_onOne (f : PairState → PairState) : (onOne f).Ready := ⟨rfl, rfl, rfl, Nat.zero_lt_succ 3⟩

theorem ready_reset : State.reset.Ready := ⟨rfl, rfl, rfl, by decide⟩

/-- Repeater 1 of a list: address 727, lag 200, w 2, drift limit 1, baseline 40, ratios 512 and 2048. -/
def load1 : LoadRecord := ⟨1, 727, 200, 2, 1, 40, 512, 2048, 0, 0⟩

def rep1 : RepeaterRecord := .ofLoad load1

def listed (r : Role) : State := onOne fun q => { q with role := r, records := [rep1] }

def cap : Captured := ⟨727, some ⟨200, 200, 20⟩, 1, 5, 50, 1024, .classic⟩

def times : ReplyTimes := ⟨⟨0, 0⟩, ⟨0, 100⟩, ⟨1, 0⟩⟩

def entry (st : EntryState) : QueueEntry := ⟨st, .host 0x3C, .one, 1, .query, 0, 1, 1⟩

/-- A HOLDER with a command frame on its tone field and one entry in flight. -/
def flying (ph : Phase) : State :=
  { onOne (fun q => { q with role := .holder .idle, records := [rep1], tone := ⟨.commandFrame, []⟩ }) with
    queue := [entry (.inFlight cap ph)] }

/-- A fault record of pair 1 in a state. -/
def fault (id : Nat) (st : FaultState) : FaultRecord :=
  ⟨id, .one, 1, 1, .dip, st, ⟨0, 0⟩, 1, none, none, some 500, 0, false, false, none⟩

def faulty (r : Role) (st : FaultState) : State := { listed r with faults := [fault 1 st], nextFaultId := 2 }

/-- A sweep of one pass over repeater 1. -/
def sweep1 (st : SweepStage) : Sweep := ⟨[[⟨1, 200, 2⟩]], 1, [], st, false⟩

def bankLoad : BankLoad := loadPass .one 1 [⟨1, 200, 2⟩]

/-- A pair 1 in a role whose pass the bank runs or has armed. -/
def sweeping (r : Role) (b : Bank) : State :=
  { onOne (fun q => { q with role := r, records := [rep1], sweep := some (sweep1 .inBank) }) with bank := b }

def defaults : List Word := PairConfig.default.toParams.map (BitVec.ofNat 32 ·)

def replies4 : List Frame := List.replicate 4 ⟨0x85, 1, [0]⟩

/-- The state with its port changed. -/
def ported (f : PortState → PortState) : State := { State.reset with port := f State.reset.port }

/-! ### Well-formed commands: each check refuses an ill-formed one -/

theorem test_wf_clear_events : (Instr.clearEvents 0 [1]).wellFormed = false := by decide

theorem test_wf_notice_mask : (Instr.setNoticeMask 0 []).wellFormed = false := by decide

theorem test_wf_configure : (Instr.configurePair 0 1 [1, 2]).wellFormed = false := by decide

theorem test_wf_load : (Instr.loadRepeaters 0 1 1 (List.replicate 17 load1)).wellFormed = false := by decide

theorem test_wf_unknown_is_known : (Instr.requestUnknownType 0 0x05 []).wellFormed = false := by decide

theorem test_wf_unknown : (Instr.requestUnknownType 0 0x7E []).wellFormed = true := by decide

theorem test_wf_no_bytes : (Instr.frameReceived []).wellFormed = false := by decide

theorem test_wf_amplitude : (Instr.farToneMillisecond .one 2049 0).wellFormed = false := by decide

theorem test_wf_amplitude_two : (Instr.farToneMillisecond .one 0 2049).wellFormed = false := by decide

/-! ### Worked values of the manual -/

/-- R182: the remainder over the bytes 0x31 to 0x39. -/
theorem test_crc : crc16 [0x31, 0x32, 0x33, 0x34, 0x35, 0x36, 0x37, 0x38, 0x39] = 0x29B1 := by decide +kernel

/-- Spec 01, The start of the order-12 sequence: twelve ones, six zeros, then a one. -/
theorem test_probe12 : (List.range 19).map (probeBit 12) =
    [true, true, true, true, true, true, true, true, true, true, true, true, false, false, false, false, false, false,
      true] := by decide

/-- Spec 07, under R120: the CHECK of a QUERY in both modes. -/
theorem test_command_check : checkByte [1, 0] = 255 ∧ checkByte (addressBytes 727 ++ [1, 0]) = 38 := by decide

/-- Spec 07, under R124: a key-on and a key-off bit with 65,536 chips and threshold 15. -/
theorem test_reply_bits : replyBitValue { cap with replyBit := 65536 } 15 7950 = true
    ∧ replyBitValue { cap with replyBit := 65536 } 15 210 = false := by decide

/-- Spec 07, under R126: the check 0x9E of the data 0x12 0x50 is good in CLASSIC and bad in ENHANCED. -/
theorem test_reply_check :
    let bits := [(0x12 : Byte), 0x50, 0x9E].flatMap fun b => (List.range 8).map fun i => b.getLsbD (7 - i)
    decodeReply (entry .waiting) cap bits = (.done, [0x12, 0x50])
      ∧ decodeReply (entry .waiting) { cap with checkMode := .enhanced } bits = (.checkError, []) := by decide

/-- R56: Ap 31 against baseline 40, and the clamp at baseline 1. -/
theorem test_ratio : ratioOf 31 40 = 793 ∧ ratioOf 64 1 = 65535 ∧ ratioOf (-3) 40 = 0 := by decide

/-- R181: the table of adjustments. -/
theorem test_adjust :
    Timebase.adjust ⟨5, 1000, 3⟩ 100 = ⟨6, 76, 3⟩ ∧ Timebase.adjust ⟨5, 10, 3⟩ (-10) = ⟨5, 0, 3⟩
    ∧ Timebase.adjust ⟨0, 100, 3⟩ (-300) = ⟨4294967295, 824, 3⟩
    ∧ Timebase.adjust ⟨4294967295, 1023, 3⟩ 1 = ⟨0, 0, 3⟩ := by decide

/-- A line of outcomes of records 1, 2, … -/
def outcomes (os : List EchoOutcome) : List Known := os.zipIdx.map fun x => ⟨x.2 + 1, x.1, 1000⟩

def classes (os : List EchoOutcome) : List (FaultClass × Nat × Nat) :=
  (candidates (outcomes os)).map fun c => (c.cls, c.first, c.last)

/-- Spec 05, Segments read from outcome lines: lines 1, 2, 5, 6, 8 and 9. -/
theorem test_segments :
    classes [.normal, .normal, .normal, .low, .unknown, .low, .normal, .normal] = [(.dip, 4, 6)]
    ∧ classes [.normal, .normal, .normal, .absent, .normal] = [(.loopbackLoss, 4, 4)]
    ∧ classes [.normal, .normal, .absent, .unknown, .unknown] = [(.break, 3, 3)]
    ∧ classes [.normal, .normal, .low, .low, .low, .absent, .absent] = [(.step, 3, 7)]
    ∧ classes [.normal, .high, .low, .normal] = [(.unstable, 2, 3)]
    ∧ classes [.low, .normal, .normal, .low, .low, .normal] = [(.dip, 1, 1), (.dip, 4, 5)] := by decide

/-- R39: OVERRANGE takes precedence over DISTURBED. -/
theorem test_validity : validityOf true [⟨5, true, false⟩] = .overrange ∧ validityOf true [⟨5, false, false⟩] = .disturbed
    ∧ validityOf false [⟨5, false, false⟩] = .valid := by decide

/-- R67: three windows of w = 500 do not fit one pass. -/
theorem test_packing : (packPasses [] 0 [⟨1, 1000, 500⟩, ⟨2, 3000, 500⟩, ⟨3, 5000, 500⟩]).map List.length = [2, 1] := by
  decide

/-- R163: the default collision time is 8,000,000 cycles; R155: the default quiet time is 3,520,000; R154: the default claim
timeout is 160,000,000. -/
theorem test_times : PairConfig.default.collisionCycles = 8000000 ∧ PairConfig.default.quietCycles = 3520000
    ∧ PairConfig.default.timeoutCycles = 160000000 := by decide

/-- The first command in the queue goes first. -/
theorem test_queue_order :
    step { State.reset with pending := [.takeRole 1 1, .identify 2] }
      = exec (.takeRole 1 1) { State.reset with pending := [.identify 2] } := rfl

/-- The state that a step answers. -/
def after (o : Host.Outcome State Fault Refusal) : State :=
  match o with
  | .next t => t
  | _ => State.reset

/-- R176: part code 0x4160, revision 1, END A, rate 0, then 4 pairs, 160 records, 32 faults, 8 entries, 4 and 4 frames and
16 records a page. -/
theorem test_identify : (after (exec (.identify 5) State.reset)).port.replies =
    [⟨0x81, 5, [0, 0x41, 0x60, 0x01, 0, 0, 4, 160, 32, 8, 4, 4, 16]⟩] := by decide

/-- R153, R154: a claim starts with its burst of F3. -/
theorem test_claim_burst : ((after (exec (.takeRole 1 1) (inRole .listen))).driveWord .one) = ⟨.off, 0, .f3⟩ := by decide

/-- R15: SET_PAIR_MODE_DISABLED in PARKED changes nothing, so no ROLE CHANGE. -/
theorem test_disabled_again :
    ((after (exec (.setPairModeDisabled 1 1) State.reset)).port.flags.pairs.get .one).roleChange = false := by decide

/-- R179: with nothing waiting and nothing due a step counts one cycle of REFCLK. -/
theorem test_idle_tick : (after (step State.reset)).time = ⟨0, 0, 1⟩ := by decide

/-- R179: the cycle after cycle 15,624 is a fraction increment. -/
theorem test_idle_fraction : (after (step { State.reset with time := ⟨0, 1023, 15624⟩ })).time = ⟨1, 0, 0⟩ := by decide

/-! ### Witnesses: the port -/

theorem witness_FrameParses : (Request.setTime 1 (some 1023)).fits = true := by decide

/-- Characters with their stop bits, wrong at every second place. -/
def characters (bs : List Byte) : List Character := bs.zipIdx.map fun x => ⟨x.1, x.2 % 2 == 0⟩

theorem witness_RequestRow : asRequest (.readTime 3) = some (3, .readTime) ∧ (Instr.readTime 3).wellFormed = true
    ∧ State.reset.port.rx = [] ∧ (State.reset.mayTake = true → State.reset.port.requests = [])
    ∧ (characters (Request.frame 3 .readTime).wire).map (·.data) = (Request.frame 3 .readTime).wire := by
  decide +kernel

theorem witness_ResetRequest :
    State.reset.Ready
    ∧ (let s := ported fun p => { p with resetPhase := .replyQueued }
      s.inReset = false ∧ s.port.resetPhase ≠ .inactive ∧ s.port.requests.length < 4)
    ∧ (let s := ported fun p => { p with
          resetPhase := .replyQueued, replies := [⟨0x82, 1, [0]⟩], tx := .sending .reply ⟨0x82, 1, [0]⟩ 0 }
      s.inReset = false ∧ s.port.tx = .sending .reply ⟨0x82, 1, [0]⟩ 0 ∧ s.port.replies.length = 1
        ∧ s.port.resetPhase = .replyQueued)
    ∧ (let s := ported fun p => { p with resetPhase := .due }
      s.inReset = false ∧ s.port.resetPhase = .due) := ⟨ready_reset, by decide⟩

theorem witness_ResetPin : ({ State.reset with inReset := true } : State).inReset = true
    ∧ Instr.readTime 1 ≠ .resetPinLow ∧ ∀ r1 r0 e, Instr.readTime 1 ≠ .powerOnReset r1 r0 e := by
  refine ⟨rfl, by decide, ?_⟩
  intro r1 r0 e h
  cases h

theorem witness_PartReads : State.reset.Ready := ready_reset

theorem witness_TimeIsSet : State.reset.Ready ∧ State.reset.time.fraction ≤ 1023
    ∧ (-1023 : Half).toInt.natAbs ≤ 1023 ∧ (1023 : Half).toInt.natAbs ≤ 1023 ∧ 1023 < (1024 : Half).toInt.natAbs := by
  exact ⟨ready_reset, by decide⟩

theorem witness_FractionIncrement : ({ State.reset with time := ⟨0xFFFFFFFF, 1023, 15624⟩ } : State).inReset = false
    ∧ ({ State.reset with time := ⟨0xFFFFFFFF, 1023, 15624⟩ } : State).time.fraction ≤ 1023 := by decide

theorem witness_ClearEvents : State.reset.Ready := ready_reset

theorem witness_RefusedRequests : State.reset.Ready ∧ Frame.parse ⟨0x7E, 0, []⟩ = .unknownType
    ∧ Frame.parse ⟨0x05, 0, [1]⟩ = .badLength ∧ (requestOwner 1 (.takeRole 0) State.reset).2.status.refuses = true := by
  exact ⟨ready_reset, by decide⟩

theorem witness_BadPair : ((0 : Byte) = 0 ∨ 4 < (0 : Byte).toNat) ∧ ((5 : Byte) = 0 ∨ 4 < (5 : Byte).toNat) := by decide

theorem witness_Transmitter :
      (let s := ported fun p => { p with replies := [⟨0x85, 1, [0]⟩] }
      s.port.tx = .idle ∧ s.port.resetPhase ≠ .due ∧ s.port.replies = [⟨0x85, 1, [0]⟩])
    ∧ (let s := ported fun p => { p with noticePending := true }
      s.port.tx = .idle ∧ s.port.resetPhase ≠ .due ∧ s.port.replies = [] ∧ s.port.noticePending = true)
    ∧ (let s := { State.reset with queue := [entry .waiting, entry (.done .done [1, 2] false)] }
      s.port.tx = .idle ∧ s.port.resetPhase ≠ .due ∧ s.port.replies = [] ∧ s.port.noticePending = false
        ∧ s.queue = [entry .waiting] ++ entry (.done .done [1, 2] false) :: []
        ∧ (∀ x ∈ [entry .waiting], x.noticeDue = false) ∧ (entry (.done .done [1, 2] false)).noticeDue = true)
    ∧ (∀ x ∈ State.reset.queue, x.noticeDue = false) := by decide

/-- A frame being sent, so many REFCLK cycles in, at 115,200 baud. -/
def sending (n : Nat) : State := ported fun p => { p with tx := .sending .reply ⟨0x85, 1, [0]⟩ n }

theorem witness_Txd : (sending 1250).port.tx = .sending .reply ⟨0x85, 1, [0]⟩ 1250
    ∧ (sending 0).rate1 = false ∧ (sending 0).rate0 = false
    ∧ (⟨0x85, 1, [0]⟩ : Frame).wire[0]? = some 0xA5 ∧ 1250 * 115200 / 16000000 = 10 * 0 + 9
    ∧ 139 * 115200 / 16000000 = 10 * 0 + 1 + 0 ∧ (⟨0x85, 1, [0]⟩ : Frame).wire.length = 8
    ∧ 10 * 8 ≤ 11112 * 115200 / 16000000 ∧ ¬(10 * 8 ≤ 11111 * 115200 / 16000000) := by decide +kernel

/-- R167: the start byte 0xA5 as start bit, 1, 0, 1, 0, 0, 1, 0, 1 and stop bit; idle when no frame is sent, and once the pin
RESET_N has gone low. -/
theorem test_txd : characterBits 0xA5 = [.start, .data true, .data false, .data true, .data false, .data false, .data true,
      .data false, .data true, .stop]
    ∧ (sending 0).txd = .start ∧ (sending 139).txd = .data true ∧ (sending 1250).txd = .stop ∧ (sending 1389).txd = .start
    ∧ (sending 11112).frameSentDue = true ∧ (sending 11111).frameSentDue = false ∧ State.reset.txd = .idle
    ∧ (after (exec .resetPinLow (sending 700))).txd = .idle := by decide +kernel

theorem witness_FrameEnd :
      (let s := ported fun p => { p with replies := [⟨0x85, 1, [0]⟩], tx := .sending .reply ⟨0x85, 1, [0]⟩ 9 }
      s.inReset = false ∧ s.port.resetPhase = .inactive ∧ s.port.tx = .sending .reply ⟨0x85, 1, [0]⟩ 9
        ∧ s.port.replies = ⟨0x85, 1, [0]⟩ :: [] ∧ s.port.requests = [])
    ∧ (let s := { (ported fun p => { p with tx := .sending .resultNotice ⟨0x7F, 0, []⟩ 9 }) with
        queue := [entry (.done .done [] true)] }
      s.inReset = false ∧ s.port.resetPhase = .inactive ∧ s.port.tx = .sending .resultNotice ⟨0x7F, 0, []⟩ 9
        ∧ s.port.requests = [] ∧ s.queue = [] ++ entry (.done .done [] true) :: []
        ∧ (entry (.done .done [] true)).noticeSending = true)
    ∧ (let s := ported fun p => { p with
        replies := replies4, tx := .sending .reply ⟨0x85, 1, [0]⟩ 9, requests := [⟨0x05, 9, []⟩] }
      s.inReset = false ∧ s.port.resetPhase = .inactive ∧ s.port.replies.length = 4
        ∧ s.port.requests = ⟨0x05, 9, []⟩ :: []) := by decide

theorem witness_FullQueues :
      (let s := ported fun p => { p with replies := replies4, requests := List.replicate 3 ⟨0x05, 9, []⟩ }
      asRequest (.readTime 1) = some (1, .readTime) ∧ s.inReset = false ∧ s.port.replies.length = 4
        ∧ s.port.resetPhase = .inactive ∧ s.port.requests.length < 4)
    ∧ (let s := ported fun p => { p with replies := replies4, requests := List.replicate 4 ⟨0x05, 9, []⟩ }
      s.inReset = false ∧ s.port.replies.length = 4 ∧ s.port.resetPhase = .inactive ∧ s.port.requests.length = 4) := by
  decide

theorem witness_BrokenFrames :
      (let s := ported fun p => { p with rx := [⟨0xA5, 1024⟩, ⟨0, 1000⟩] }
      s.inReset = false ∧ s.port.rx = ⟨0xA5, 1024⟩ :: [⟨0, 1000⟩] ∧ 1024 ≤ (⟨0xA5, 1024⟩ : HeldByte).age
        ∧ assemble [0] = .incomplete ∧ ∀ x ∈ [(⟨0, 1000⟩ : HeldByte)], x.byte ≠ 0xA5)
    ∧ (State.reset.port.rx = [] ∧ (∀ x ∈ [(0 : Byte), 1], x ≠ 0xA5)
      ∧ assemble ([0, 1] ++ (Request.frame 3 .readTime).wire) = .bad
      ∧ (characters (0xA5 :: [0, 1] ++ (Request.frame 3 .readTime).wire)).map (·.data)
        = 0xA5 :: [0, 1] ++ (Request.frame 3 .readTime).wire)
    ∧ (State.reset.inReset = false ∧ (∀ c ∈ characters [0, 0x5A], c.data ≠ 0xA5)
      ∧ assemble ((characters [0, 6, 5]).map (·.data)) = .incomplete) := by decide +kernel

theorem witness_FrameHeld :
      (let s := ported fun p => { p with rx := [⟨0xA5, 1023⟩, ⟨0, 4⟩] }
      s.inReset = false ∧ s.port.rx = ⟨0xA5, 1023⟩ :: [⟨0, 4⟩] ∧ 1023 < 1024
        ∧ assemble ([(⟨0, 4⟩ : HeldByte)].map (·.byte) ++ (characters [2, 5]).map (·.data)) = .incomplete)
    ∧ (let wire := (Request.frame 3 .readTime).wire
      let s := ported fun p => { p with rx := (wire.take 6).map (⟨·, 1023⟩) }
      s.Ready ∧ characters (wire.drop 6) ≠ [] ∧ (∀ b ∈ s.port.rx, b.age < 1024)
        ∧ s.port.rx.map (·.byte) ++ (characters (wire.drop 6)).map (·.data) = wire) :=
  ⟨by decide, ⟨rfl, rfl, rfl, by decide⟩, by decide +kernel⟩

/-- R167: the frame is taken although every stop bit reads wrong. -/
theorem test_stop_bits_ignored :
    (after (exec (.frameReceived ((Request.frame 3 .readTime).wire.map (⟨·, false⟩))) State.reset)).port.replies
      = [⟨0x85, 3, [0, 0, 0, 0, 0, 0, 0]⟩] := by decide +kernel

/-- R169, R172: the discard of a broken frame begins the notice before the good frame behind it is answered. -/
theorem test_discard_notifies_first :
    (let s := after (exec (.frameReceived (characters (0xA5 :: 0 :: 1 :: (Request.frame 3 .readEvents).wire))) State.reset)
    (match s.port.tx with | .sending .eventNotice _ _ => true | _ => false) && s.port.replies.length == 1) = true := by
  decide +kernel

/-! ### Witnesses: configuration, modes and roles -/

theorem witness_ConfigureTaken : (inRole .listen).Ready ∧ defaults.length = 32
    ∧ ((inRole .listen).pair .one).role = .listen
    ∧ firstFailing (defaults.map (·.toNat)) ((inRole .listen).pair .one).records = none
    ∧ (State.reset.pair .one).role = .parked := ⟨ready_onOne _, by decide⟩

theorem witness_ConfigureRefused : (defaults.set 31 9).length = 32
    ∧ ((inRole (.holder .idle)).pair .one).role ≠ .parked ∧ ((inRole (.holder .idle)).pair .one).role ≠ .listen
    ∧ paramPasses ((defaults.set 0 11).map (·.toNat)) [] 1 = false
    ∧ paramPasses ((defaults.set 31 9).map (·.toNat)) [] 32 = false
    ∧ (∀ m ∈ List.range 31, paramPasses ((defaults.set 31 9).map (·.toNat)) [] (m + 1) = true)
    ∧ (16, 10, 500) ∈ [(3, 1, 1024), (16, 10, 500)] ∧ (15, [5, 10]) ∈ [(15, [5, 10]), (19, [256, 2048])] := by
  decide +kernel

/-- R9: both ends of the ranges of parameters 3 and 16 pass, and what lies beyond them does not. -/
theorem test_param_ends :
    let passes := fun (n : Nat) (v : Word) => paramPasses ((defaults.set (n - 1) v).map (·.toNat)) [] n
    passes 3 1 = true ∧ passes 3 1024 = true ∧ passes 3 0 = false ∧ passes 3 1025 = false
      ∧ passes 16 10 = true ∧ passes 16 500 = true ∧ passes 16 9 = false ∧ passes 16 501 = false := by decide

theorem witness_Disabled : (∀ f, (onOne f).Ready)
    ∧ ((inRole (.yielding .graceful true false)).pair .one).role.name = .yielding
    ∧ (flying .toneWait).inFlightOn .one = true
    ∧ ((State.reset.pair .one).role = .parked ∧ State.reset.inFlightOn .one = false)
    ∧ (((inRole .listen).pair .one).role ≠ .parked ∧ ((inRole .listen).pair .one).role.name ≠ .yielding
      ∧ (inRole .listen).inFlightOn .one = false) := ⟨ready_onOne, by decide⟩

/-- A record whose first command waits: in the queue, or for room in it. -/
def waitingRecord (step : Step) : FaultRecord :=
  { fault 1 .acting with action := some ⟨.query, .auto, step, none, 0, .pending⟩ }

/-- A HOLDER whose record's QUERY waits in the queue, with a run ACTIVE on it. -/
def acting : State :=
  { onOne (fun q => { q with
      role := .holder .idle, records := [rep1], learn := .active .unconditional 4 1 0, hold := true }) with
    faults := [waitingRecord .querying], nextFaultId := 2
    queue := [{ entry .waiting with origin := .fault 1 }] }

theorem faultListInv_acting : FaultListInv acting := ⟨by decide, by decide, by decide, by decide⟩

/-- Role loss has something to end: an entry, a sequence in the queue, one that waits for room, and a run. -/
theorem witness_RoleLoss : acting.Ready ∧ (acting.pair .one).role = .holder .idle ∧ acting.inFlightOn .one = false
    ∧ FaultListInv acting ∧ SweepInv acting ∧ (acting.pair .one).completionDue = false ∧ (acting.pair .one).learn ≠ .idle
    ∧ (waitingRecord .querying).losesRole .one acting.queue = true
    ∧ (waitingRecord (.waitingForQueue .query 0 .querying)).losesRole .one [] = true
    ∧ ({ State.reset with bank := .armed { bankLoad with pair := .two } } : State).bank.holder = some .two :=
  ⟨⟨rfl, rfl, rfl, by decide⟩, by decide, by decide, faultListInv_acting,
    ⟨fun p => by cases p <;> decide, fun p => by cases p <;> decide⟩, by decide⟩

/-- R110, R131, R149: entering PARKED abandons the run, ends the entry and the sequence with ROLE LOST. -/
theorem test_disabled_ends_all :
    let t := after (exec (.setPairModeDisabled 1 1) acting)
    t.queue = [] ∧ t.faults.map (fun r => (r.state, r.action.map (·.result)))
        = [(.unresolved, some (.exchange .roleLost))]
      ∧ (t.pair .one).lastLearn = .abandoned .role 0 ⟨0, 0⟩ ∧ (t.pair .one).hold = false := by decide

theorem witness_EnabledSynthetic : (∀ f, (onOne f).Ready) ∧ (State.reset.pair .one).role = .parked
    ∧ ((inRole .synthetic).pair .one).role = .synthetic ∧ ((inRole .listen).pair .one).role = .listen
    ∧ ((inRole (.claiming 5 .held)).pair .one).role ≠ .parked
    ∧ ((inRole (.claiming 5 .held)).pair .one).role ≠ .listen := ⟨ready_onOne, by decide⟩

theorem witness_Inject : (∀ f, (onOne f).Ready) ∧ ((inRole .listen).pair .one).role ≠ .synthetic
    ∧ ((listed .synthetic).pair .one).role = .synthetic ∧ 1023 < (1024 : Half).toNat ∧ (1023 : Half).toNat ≤ 1023
    ∧ ((listed .synthetic).pair .one).records.length < (2 : Byte).toNat
    ∧ (1 : Byte) ≠ 0 ∧ (1 : Byte).toNat ≤ ((listed .synthetic).pair .one).records.length := ⟨ready_onOne, by decide⟩

theorem witness_PairReads : (listed .listen).Ready ∧ recordAt ((listed .listen).pair .one).records 1 = some rep1
    ∧ recordAt ((listed .listen).pair .one).records 2 = none := ⟨ready_onOne _, by decide⟩

theorem witness_TakeRole : (∀ f, (onOne f).Ready) ∧ ((inRole .listen).pair .one).role = .listen
    ∧ ((inRole (.claiming 0 .burst)).pair .one).role.name = .claiming
    ∧ ((inRole (.yielding .prompt false true)).pair .one).role.name = .yielding := ⟨ready_onOne, by decide⟩

theorem witness_ReleaseOutside : (∀ f, (onOne f).Ready) ∧ (1 : Byte).toNat ≤ 1 ∧ 1 < (2 : Byte).toNat
    ∧ ((inRole (.claiming 0 .burst)).pair .one).role.name = .claiming
    ∧ ((inRole .listen).pair .one).role = .listen ∧ ((inRole .parked).pair .one).role = .parked :=
  ⟨ready_onOne, by decide⟩

/-- The bank and the sweeps agree in a state that runs pair 1's pass. -/
theorem sweepInv_running : SweepInv (sweeping (.holder .idle) (.running bankLoad 0)) :=
  ⟨fun p => by cases p <;> decide, fun p => by cases p <;> decide⟩

theorem sweepInv_holder : SweepInv (inRole (.holder .idle)) :=
  ⟨fun p => by cases p <;> decide, fun p => by cases p <;> decide⟩

theorem witness_ReleaseYields :
    ((inRole (.holder .idle)).Ready ∧ SweepInv (inRole (.holder .idle))
      ∧ ((inRole (.holder .idle)).pair .one).role = .holder .idle
      ∧ ((inRole (.holder .idle)).pair .one).completionDue = false)
    ∧ ((sweeping (.holder .idle) (.running bankLoad 0)).Ready
      ∧ SweepInv (sweeping (.holder .idle) (.running bankLoad 0))
      ∧ ((sweeping (.holder .idle) (.running bankLoad 0)).pair .one).completionDue = false
      ∧ (sweeping (.holder .idle) (.running bankLoad 0)).bank.runs .one = true) :=
  ⟨⟨ready_onOne _, sweepInv_holder, by decide⟩, ⟨⟨rfl, rfl, rfl, by decide⟩, sweepInv_running, by decide⟩⟩

/-! ### Witnesses: records, results, faults, learning -/

theorem witness_Load : (∀ f, (onOne f).Ready) ∧ [load1].length ≤ 16
    ∧ (((inRole (.holder .idle)).pair .one).role ≠ .parked ∧ ((inRole (.holder .idle)).pair .one).role ≠ .listen)
    ∧ (3 : Byte).toNat ≠ 1 ∧ firstBadRecord 65535 1 none [{ load1 with excluded := 2 }] = some (1, 10)
    ∧ firstBadRecord 65535 1 none [load1] = none
    ∧ firstBadRecord 65535 2 (some 200) [{ load1 with index := 2, nominalLag := 201 }] = none := ⟨ready_onOne, by decide⟩

theorem witness_Edit : (listed .listen).Ready ∧ (0x3B : Byte).toNat < 64
    ∧ ((0x3B : Byte).getLsbD 2 && (0x3B : Byte).getLsbD 3) = false
    ∧ recordAt ((listed .listen).pair .one).records (1 : Byte).toNat = some rep1
    ∧ (1 ≤ (1023 : Half).toNat ∧ (1023 : Half).toNat ≤ 1023) ∧ (1025 ≤ (1025 : Half).toNat ∧ (1025 : Half).toNat ≤ 65534)
    ∧ (1 ≤ (32767 : Half).toNat ∧ (32767 : Half).toNat ≤ 32767) ∧ (1 : Byte).toNat ≤ 1 := ⟨ready_onOne _, by decide⟩

/-- A published sweep of one record. -/
def published1 : PublishedSweep :=
  ⟨1, ⟨0, 0⟩, 1, [⟨1, true, 200, 200, 2, some ⟨31, 0, 793, .valid⟩, .unknown, .candidate, false, [⟨31, false, false⟩]⟩]⟩

theorem witness_Results :
      (let s := onOne fun q => { q with published := some published1 }
      s.Ready ∧ (1 : Byte).toNat ≤ 1
        ∧ (bufferResults (s.pair .one).published).length < (2 : Byte).toNat
        ∧ (1 : Byte).toNat ≤ (bufferResults (s.pair .one).published).length
        ∧ (s.pair .one).readout = none
        ∧ (published1.results.find? fun x => x.index == 1).isSome = true
        ∧ published1.results.find? (fun x => x.index == 2) = none) := ⟨ready_onOne _, by decide⟩

theorem witness_FaultReads : (faulty .listen .confirmed).Ready ∧ 4 < (5 : Byte).toNat ∧ (4 : Byte).toNat ≤ 4
    ∧ (faulty .listen .confirmed).faults = [] ++ fault 1 .confirmed :: [] ∧ (fault 1 .confirmed).id = (1 : Half).toNat
    ∧ (1 : Half) ≠ 0 ∧ (faulty .listen .confirmed).faultAt (1 : Half).toNat = some (fault 1 .confirmed)
    ∧ (faulty .listen .confirmed).faultAt (2 : Half).toNat = none := ⟨⟨rfl, rfl, rfl, by decide⟩, by decide⟩

theorem witness_Purge : (faulty .listen .cleared).Ready ∧ (fault 1 .cleared).state = .cleared
    ∧ (faulty .listen .cleared).faults = [] ++ fault 1 .cleared :: [] ∧ (1 : Half) ≠ 0
    ∧ (faulty .listen .suspect).faultAt (1 : Half).toNat = some (fault 1 .suspect)
    ∧ (fault 1 .suspect).state ≠ .cleared ∧ (faulty .listen .cleared).faultAt (0 : Half).toNat = none
    ∧ 4 < (5 : Byte).toNat ∧ (4 : Byte).toNat ≤ 4 := ⟨⟨rfl, rfl, rfl, by decide⟩, by decide⟩

theorem witness_Learn : (∀ f, (onOne f).Ready)
    ∧ (((inRole .listen).pair .one).role.name ≠ .holder ∧ ((inRole .listen).pair .one).role.name ≠ .synthetic)
    ∧ (((inRole .synthetic).pair .one).role.name = .synthetic ∧ ((inRole .synthetic).pair .one).learn = .idle)
    ∧ ((onOne fun q => { q with learn := .active .conditional 4 0 0 }).pair .one).learn ≠ .idle :=
  ⟨ready_onOne, by decide⟩

/-! ### Witnesses: the tone channel and isolation -/

theorem witness_Supervise : (∀ f, (onOne f).Ready) ∧ ((inRole .listen).pair .one).role.name ≠ .holder
    ∧ ((listed (.holder .idle)).pair .one).role.name = .holder
    ∧ ((listed (.holder .idle)).pair .one).records.length < (2 : Byte).toNat
    ∧ (commandOf 1 1 = none ∧ commandOf 1 0 = some (.query, 0)
      ∧ (1 : Byte).toNat ≤ ((listed (.holder .idle)).pair .one).records.length)
    ∧ 8 ≤ (List.replicate 8 (entry .waiting)).length
    ∧ ((flying .toneWait).Ready ∧ (flying .toneWait).queue.length < 8 ∧ (flying .toneWait).flight.isSome = true)
    ∧ (∀ e ∈ (listed (.holder .idle)).queue, e.isWaiting = false ∧ e.isInFlight = false)
    ∧ ((listed (.holder .idle)).pair .one).det.lossDeclared = false
    ∧ ((listed (.holder .idle)).pair .one).tone = ⟨.free, []⟩
    ∧ recordAt ((listed (.holder .idle)).pair .one).records 1 = some rep1 :=
  ⟨ready_onOne, by decide, by decide, by decide, by decide, by decide, ⟨⟨rfl, rfl, rfl, by decide⟩, by decide⟩, by decide⟩

theorem witness_Isolate :
    ((faulty (.holder .idle) .confirmed).Ready
      ∧ (faulty (.holder .idle) .confirmed).faultAt (0 : Half).toNat = none
      ∧ (faulty (.holder .idle) .confirmed).faultAt (1 : Half).toNat = some (fault 1 .confirmed)
      ∧ ((faulty (.holder .idle) .confirmed).pair .one).role.name = .holder
      ∧ (∀ a, isolateAction 3 = some a → actionAllowed .dip a = false)
      ∧ isolateAction 2 = some .pumpRecovery ∧ actionAllowed .dip .pumpRecovery = true
      ∧ (faulty (.holder .idle) .confirmed).queue.length < 8)
    ∧ (fault 1 .suspect).state ≠ .confirmed ∧ (fault 1 .suspect).state ≠ .unresolved
    ∧ ((faulty (.holder .idle) .isolated).Ready
      ∧ (faulty (.holder .idle) .isolated).faultAt (1 : Half).toNat = some (fault 1 .isolated)) := by
  refine ⟨⟨⟨rfl, rfl, rfl, by decide⟩, by decide, by decide, by decide, ?_, by decide⟩, by decide, by decide,
    ⟨rfl, rfl, rfl, by decide⟩, by decide⟩
  intro a h
  obtain rfl : Action.hold = a := by simpa [isolateAction] using h
  decide

theorem witness_Midpoint :
      (let s := flying (.transmitting 66 0 false none)
      s.inReset = false ∧ s.queue = [] ++ entry (.inFlight cap (.transmitting 66 0 false none)) :: [])
    ∧ (let s := flying (.transmitting 65 9 true none)
      s.queue = [] ++ entry (.inFlight cap (.transmitting 65 9 true none)) :: [] ∧ 65 < 66) := by decide

theorem witness_TransmissionEnds :
      (let s := flying (.transmitting 66 80000 true none)
      s.inReset = false ∧ s.queue = [] ++ entry (.inFlight cap (.transmitting 66 80000 true none)) :: []
        ∧ (s.pair .one).tone = ⟨.commandFrame, []⟩ ∧ cap.target = some ⟨200, 200, 20⟩
        ∧ (s.pair .one).role.name = .holder)
    ∧ ({ cap with target := none } : Captured).target = none
    ∧ (let s := flying (.transmitting 16 80000 true (some 16))
      s.inReset = false ∧ s.queue = [] ++ entry (.inFlight cap (.transmitting 16 80000 true (some 16))) :: []
        ∧ (s.pair .one).tone = ⟨.commandFrame, []⟩ ∧ (s.pair .one).role.name = .holder) := by decide

theorem witness_ReceptionStart :
      (let s := flying (.replyDue times)
      s.inReset = false ∧ s.queue = [] ++ entry (.inFlight cap (.replyDue times)) :: []
        ∧ (s.pair .one).atBoundary = true ∧ s.bank.runs .one = false)
    ∧ (let s := flying (.awaitingReply ⟨0, 7⟩ 1)
      s.queue = [] ++ entry (.inFlight cap (.awaitingReply ⟨0, 7⟩ 1)) :: [] ∧ (s.pair .one).atBoundary = true)
    ∧ (let s := { flying (.replyDue times) with bank := .running bankLoad 0 }
      s.bank = .running bankLoad 0 ∧ bankLoad.pair = .one ∧ 0 < bankLoad.periods)
    ∧ ((entry (.inFlight cap (.awaitingReply ⟨0, 7⟩ 1))).state = .inFlight cap (.awaitingReply ⟨0, 7⟩ 1)
      ∧ (entry (.inFlight cap (.replyDue times))).state = .inFlight cap (.replyDue times)) := by decide

/-- R122, R179: T0 is the line time as it stands in its cycle, also after a SET TIME during the wait. -/
theorem test_t0_follows_set_time :
    ((after (exec (.setTime 1 9 (some 5)) (flying (.awaitingReply ⟨0, 7⟩ 1)))).queue.map fun e =>
        match (e.tick ⟨9, 5, 3⟩).state with | .inFlight _ (.replyDue t) => some t.start | _ => none)
      = [some ⟨9, 5⟩] := by decide

/-- A pair whose exchange receives its reply: the role, the tone field, the entry. -/
def replying (r : Role) (tone : ToneField) (e : QueueEntry) : State :=
  { onOne (fun q => { q with role := r, records := [rep1], tone := tone }) with queue := [e] }

/-- The entry with its command, and the bits read so far. -/
def reading (c : Command) (argument : Nat) (retries : Nat) (bits : List Bool) (sum : Int) : QueueEntry :=
  { entry (.inFlight cap (.receiving times bits sum 1024)) with command := c, argument := argument, retries := retries }

/-- The bits of a reply, most significant first. -/
def bitsOf (bs : List Byte) : List Bool := bs.flatMap fun b => (List.range 8).map fun i => b.getLsbD (7 - i)

theorem witness_ReplyBit :
      (let e := reading .query 0 1 [true, false] 5000
      let s := replying (.holder .idle) ⟨.free, []⟩ e
      s.inReset = false ∧ s.queue = [] ++ e :: [] ∧ cap.target = some ⟨200, 200, 20⟩
        ∧ e.state = .inFlight cap (.receiving times [true, false] 5000 1024) ∧ cap.replyBit ≤ 1024 ∧ 1 ≤ cap.replyBit
        ∧ 1 ≤ 20 ∧ [true, false].length + 1 < 2 + dataBits .query + 8 ∧ [true, false].length + 1 ≠ 2)
    ∧ (decide (2 * (cap.replyBit : Int) * 20 ≤ 512 * 5000 + cap.replyBit) = true
      ∧ decide (2 * (cap.replyBit : Int) * 20 ≤ 512 * (-5000) + cap.replyBit) = false)
    ∧ ([true] ++ [true] ≠ [true, false] ∧ [true] ++ [false] = [true, false])
    ∧ (ExchangeResult.noReply ∈ [ExchangeResult.noReply, .checkError, .badReply]
      ∧ ((replying (.holder .idle) ⟨.free, []⟩ (reading .query 0 1 [true] 5000)).pair .one).tone = ⟨.free, []⟩
      ∧ ((replying (.holder .idle) ⟨.keepBurst 3, []⟩ (reading .query 0 1 [true] 5000)).pair .one).tone.use ≠ .free)
    ∧ (reading .query 0 0 [true] 5000).retries = 0 ∧ (reading .query 0 0 [true] 5000).origin = .host 0x3C
    ∧ ((replying (.yielding .prompt false true) ⟨.free, []⟩ (reading .query 0 1 [true] 5000)).pair .one).role
      = .yielding .prompt false true := by decide

/-- The last check bit, of a LOOPBACK MUTE on or off, of a RELEASE and of a QUERY: 17 and 25 bits have been read. -/
theorem witness_LastReplyBit :
      ((true :: false :: (bitsOf [0xA4, 0x5C]).take 15).length + 1 = 2 + dataBits .loopbackMute + 8)
    ∧ decodeReply (reading .loopbackMute 1 0 [] 0) cap (bitsOf [0xA4, 0x5C]) = (.done, [0xA4])
    ∧ decodeReply (reading .loopbackMute 0 0 [] 0) cap (bitsOf [0xA4, 0x5C]) = (.done, [0xA4])
    ∧ decodeReply (reading .release 0 0 [] 0) cap (bitsOf [0xA5, 0x5B]) = (.done, [0xA5])
    ∧ decodeReply (reading .query 0 0 [] 0) cap (bitsOf [0x12, 0x50, 0x9E]) = (.done, [0x12, 0x50])
    ∧ decodeReply (reading .query 0 0 [] 0) cap (bitsOf [0x12, 0x50, 0x9F]) = (.checkError, []) := by decide

/-- R51, R129: DONE on LOOPBACK MUTE excludes the record by mute. -/
theorem test_mute_excludes :
    (((after (exec .replyBit (replying (.holder .idle) ⟨.free, []⟩
      (reading .loopbackMute 1 0 (true :: false :: (bitsOf [0xA4, 0x5C]).take 15) (-5000))))).pair .one).records.map
        fun r => (r.excluded, r.excludedByMute)) = [(true, true)] := by decide

theorem witness_ReplyDecodes : [(0x12 : Byte), 0x50].length = dataBits .query / 8
    ∧ (List.map BitVec.toNat [(0x12 : Byte), 0x50, 0x9D]).sum % 256 ≠ 0
    ∧ (List.map BitVec.toNat [(0x12 : Byte), 0x50, 0x9E]).sum % 256 = 0
    ∧ (List.map BitVec.toNat [(0xA2 : Byte), 0x5E]).sum % 256 = 0 ∧ Command.pumpSelect ≠ .query
    ∧ [(0xA2 : Byte)].length = dataBits .pumpSelect / 8 := by decide

/-- The record of a result: its sequence asks for the status word, drives a pump, or has sent its command. -/
theorem witness_Deliver : FaultListInv acting ∧ acting.faultAt 1 = some (waitingRecord .querying)
    ∧ (waitingRecord .querying).state = .acting ∧ acting.faultAt 2 = none
    ∧ (waitingRecord .querying).action = some ⟨.query, .auto, .querying, none, 0, .pending⟩
    ∧ ((half 0x20 0).getLsbD 15 || (half 0x20 0).getLsbD 14) = false
    ∧ (half 0x20 0).getLsbD 13 ≠ (half 0x20 0).getLsbD 12 ∧ (half 0x30 0).getLsbD 13 = (half 0x30 0).getLsbD 12
    ∧ (half 0x40 0).getLsbD 14 = true ∧ acting.queue.length < 8 ∧ ExchangeResult.roleLost ≠ .done :=
  ⟨faultListInv_acting, by decide⟩

/-- R142: a QUERY's word is stored and the sequence ends QUERIED with the record CONFIRMED. -/
theorem test_deliver_query : (acting.deliver 1 .done [0x12, 0x50]).faults.map
    (fun r => (r.state, r.action.map fun a => (a.statusWord, a.result))) = [(.confirmed, some (some 0x1250, .queried))] := by
  decide

/-! ### Witnesses: samples, detectors and roles -/

/-- A state of pair 1 in a role with something changed. -/
def roleAnd (r : Role) (f : PairState → PairState) : State := onOne fun q => f { q with role := r }

theorem witness_ReturnSample :
      (let s := sweeping (.holder .idle) (.running bankLoad 0)
      s.inReset = false ∧ (s.pair .one).role ≠ .parked ∧ s.boundaryStepDue .one = false
        ∧ (s.pair .one).clock.chip + 1 < 2 ^ (s.pair .one).config.order - 1 ∧ bankLoad.pair = .one
        ∧ 0 < bankLoad.periods)
    ∧ (let s := roleAnd .listen fun q => { q with clock := { q.clock with chip := 65534 } }
      (s.pair .one).role ≠ .parked ∧ s.boundaryStepDue .one = false
        ∧ 2 ^ (s.pair .one).config.order - 1 ≤ (s.pair .one).clock.chip + 1 ∧ s.bank.runs .one = false)
    ∧ (let s := flying (.receiving times [] 0 1023)
      s.boundaryStepDue .one = false ∧ s.queue = [] ++ entry (.inFlight cap (.receiving times [] 0 1023)) :: [])
    ∧ ((⟨3, 34359738367, false, false⟩ : Bin).sum + 1 > 2 ^ 35 - 1
      ∧ (⟨3, -34359738368, false, false⟩ : Bin).sum + -1 < -2 ^ 35
      ∧ (⟨3, 34359738366, false, false⟩ : Bin).sum + 1 ≤ 2 ^ 35 - 1) := by decide

theorem witness_ReturnLoss :
      (let s := { sweeping (.holder .idle) (.armed bankLoad) with
        queue := [entry (.inFlight cap (.transmitting 3 100 true none))] }
      let s := s.modPair .one fun q => { q with det := { q.det with lossRun := 256 } }
      s.inReset = false ∧ (s.pair .one).role ≠ .parked ∧ (s.pair .one).det.lossDeclared = false
        ∧ (s.pair .one).config.lossRun ≤ (s.pair .one).det.lossRun ∧ (s.pair .one).completionDue = false
        ∧ s.queue = [] ++ entry (.inFlight cap (.transmitting 3 100 true none)) :: []
        ∧ (s.pair .one).role.name = .holder ∧ (s.pair .one).role.name ≠ .yielding) := by decide

theorem witness_PeriodBoundary :
      (let s := sweeping (.holder .idle) (.running bankLoad 0)
      let s := s.modPair .one fun q => { q with
        clock := { q.clock with chip := 65534, periodDue := true }
        det := { q.det with lossDeclared := true, strong := 32768 } }
      s.inReset = false ∧ (s.pair .one).role ≠ .parked ∧ (s.pair .one).clock.periodDue = true
        ∧ 2 ^ (s.pair .one).config.order - 1 ≤ 2 * (s.pair .one).det.strong
        ∧ (∃ r ∈ (s.pair .one).records, r.excluded = false))
    ∧ ¬(2 ^ 16 - 1 ≤ 2 * 32767) := by
  refine ⟨⟨by decide, by decide, by decide, by decide, rep1, by decide, by decide⟩, by decide⟩

theorem witness_FarActivity :
      (let s := roleAnd (.holder .idle) fun q => { q with
        det := { q.det with blockPos := 4096, blockSum := 262144, disagree := 1 } }
      s.inReset = false ∧ (s.pair .one).role ≠ .parked ∧ 4096 ≤ (s.pair .one).det.blockPos
        ∧ (s.pair .one).role = .holder .idle ∧ 4096 * (s.pair .one).config.activityLevel ≤ (s.pair .one).det.blockSum
        ∧ (s.pair .one).det.farPresent = false ∧ 1 ≤ (s.pair .one).det.disagree)
    ∧ ((roleAnd (.claiming 7 .held) id).pair .one).role = .claiming 7 .held
    ∧ ((roleAnd .listen id).pair .one).role.name ≠ .claiming := by decide

/-- Both tones are to be reported in the next millisecond. -/
def heard (r : Role) : State :=
  roleAnd r fun q => { q with det := { q.det with claimTone := ⟨false, 19⟩, keepTone := ⟨false, 19⟩ } }

theorem witness_FarTones :
      (let s := heard (.claiming 7 .burst)
      s.inReset = false ∧ (s.pair .one).role ≠ .parked ∧ (s.pair .one).config.activityLevel ≤ 64
        ∧ (s.pair .one).config.detectTime ≤ (s.pair .one).det.claimTone.run + 1
        ∧ (s.pair .one).det.claimTone.held = false ∧ s.endSetting = .endA)
    ∧ ({ heard (.claiming 7 .burst) with endSetting := .endB } : State).endSetting = .endB
    ∧ (let s := heard (.holder .idle)
      (s.pair .one).role = .holder .idle ∧ (s.pair .one).config.yieldPolicy = .yield
        ∧ (s.pair .one).completionDue = false ∧ (s.pair .one).tone = ⟨.free, []⟩)
    ∧ ((roleAnd (.holder .idle) fun q => { q with config := { q.config with yieldPolicy := .keep } }).pair
        .one).config.yieldPolicy = .keep
    ∧ SweepInv (heard (.holder .idle)) :=
  ⟨by decide, by decide, by decide, by decide, ⟨fun p => by cases p <;> decide, fun p => by cases p <;> decide⟩⟩

theorem witness_Claim :
      (let s := roleAnd (.claiming 5 .burst) fun q => { q with tone := ⟨.claimBurst 3200000, []⟩ }
      s.inReset = false ∧ (s.pair .one).role = .claiming 5 .burst ∧ (s.pair .one).tone = ⟨.claimBurst 3200000, []⟩)
    ∧ ((roleAnd (.holder .idle) fun q => { q with tone := ⟨.keepBurst 9, []⟩ }).pair .one).tone = ⟨.keepBurst 9, []⟩
    ∧ (let s := roleAnd (.claiming 5 (.counting 3520000)) id
      (s.pair .one).role = .claiming 5 (.counting 3520000)
        ∧ (2 * (s.pair .one).config.lineDelay + 100) * 16000 ≤ 3520000)
    ∧ (let s := roleAnd (.claiming 160000000 .held) id
      (s.pair .one).role = .claiming 160000000 .held
        ∧ (s.pair .one).config.claimTimeout * 16000000 ≤ 160000000) := by decide

theorem witness_Collision :
      (let s := roleAnd (.holder (.counting 8000000)) id
      s.inReset = false ∧ (s.pair .one).role = .holder (.counting 8000000)
        ∧ (s.pair .one).config.collisionTime * 16000 ≤ 8000000 ∧ s.endSetting = .endA
        ∧ (s.pair .one).tone = ⟨.free, []⟩ ∧ (s.pair .one).completionDue = false)
    ∧ ({ roleAnd (.holder (.counting 8000000)) id with endSetting := .endB } : State).endSetting = .endB := by decide

/-! ### Witnesses: passes, completions and faults -/

theorem witness_Passes :
      (let s := sweeping (.holder .idle) (.armed bankLoad)
      s.inReset = false ∧ bankLoad.pair = .one ∧ (s.pair .one).sweep = some (sweep1 .inBank) ∧ s.bank = .armed bankLoad
        ∧ (s.pair .one).role ≠ .parked ∧ (s.pair .one).clock.chipCycles = 0 ∧ (s.pair .one).clock.periodDue = false
        ∧ (s.pair .one).clock.chip = 0 ∧ (sweep1 .inBank).awaitBoundary = false
        ∧ ∀ e ∈ s.queue, e.isInFlight = false)
    ∧ (let s := sweeping (.holder .idle) (.running bankLoad 1)
      s.bank = .running bankLoad 1 ∧ bankLoad.periods ≤ 1 ∧ (sweep1 .inBank).passes.length ≤ (sweep1 .inBank).passNo
        ∧ (s.pair .two).passReady = false)
    ∧ (let w : Sweep := { sweep1 .inBank with passes := [[⟨1, 200, 2⟩], []] }
      w.passNo < w.passes.length)
    ∧ (inRole (.yielding .graceful true false)).bank.runs .one = false := by decide

theorem witness_Window : 1 ≤ 65535 ∧ (⟨1, 200, 2⟩ : Window).load.bins ≠ []
    ∧ (⟨1, 200, 200⟩ : Window).halfWidth ≤ (⟨1, 200, 200⟩ : Window).centre := by
  refine ⟨by decide, by decide, by decide⟩

theorem witness_Completion :
    let s := roleAnd .synthetic fun q => { q with records := [rep1], sweep := some (sweep1 (.completing ⟨7, 8⟩)) }
    s.inReset = false ∧ (s.pair .one).sweep = some (sweep1 (.completing ⟨7, 8⟩))
      ∧ (sweep1 (.completing ⟨7, 8⟩)).stage = .completing ⟨7, 8⟩ ∧ (s.pair .one).records[0]? = some rep1
      ∧ (s.pair .one).learn = .idle ∧ (s.pair .one).det.lossDeclared = false := by decide

/-- Stage 2: a run that an open record suspends, one at its last suspended sweep, and one at its last counted sweep. -/
theorem witness_LearningStage :
      (let s := { faulty (.holder .idle) .confirmed with }
      (s.pair .one).learn = .idle
        ∧ s.faults.any (fun r => decide (r.pair = .one)
          && decide (r.state ∈ [FaultState.suspect, .confirmed, .acting, .unresolved])) = true)
    ∧ ((roleAnd .synthetic fun q => { q with learn := .active .conditional 4 0 7 }).pair .one).learn
      = .active .conditional 4 0 7 ∧ 7 + 1 = 2 * 4
    ∧ ((roleAnd .synthetic fun q => { q with learn := .active .unconditional 4 3 0 }).pair .one).learn
      = .active .unconditional 4 3 0 ∧ 3 + 1 = 4 := by decide

/-- R107, R108: the last counted sweep of four replaces the baseline by the rounded mean (120 + 31) / 4. -/
theorem test_learning_finishes :
    (((roleAnd .synthetic fun q => { q with
        records := [{ rep1 with lock := .locked, learnSum := 120, learnCount := 3 }],
        learn := .active .unconditional 4 3 0, hold := true }).learningStage .one [⟨1, 200, 31, 0, [], .valid⟩] 6
          ⟨7, 8⟩).pair .one) = (let q := (roleAnd .synthetic id).pair .one
      { q with
        records := [{ rep1 with lock := .locked, baseline := 38 }], lastLearn := .finished 6 ⟨7, 8⟩ 1 0,
        hold := true }) := by decide

/-- Stages 3 and 4: the hold, a record to be verified with and without its mark, one that waits for room, and one that
starts by itself. -/
theorem witness_IsolationStage : ((roleAnd .synthetic fun q => { q with hold := true }).pair .one).hold = true
    ∧ (State.reset.pair .one).hold = false ∧ FaultListInv acting
    ∧ acting.faultAt (waitingRecord .querying).id = some (waitingRecord .querying)
    ∧ (waitingRecord (.verifying true)).state = .acting
    ∧ (outcomes [.normal]).find? (fun k => k.index == (waitingRecord (.verifying false)).first)
      = some ⟨1, .normal, 1000⟩
    ∧ min 8 (7 + 1) = 8 ∧ min 8 (8 + 1) = 8 ∧ (acting.pair .one).config.autoIsolation = false
    ∧ PairConfig.policy { PairConfig.default with autoIsolation := true, policyDip := .hold } .dip ≠ .nothing
    ∧ PairConfig.policy { PairConfig.default with autoIsolation := true, policyDip := .hold } .dip ≠ .release :=
  ⟨by decide, by decide, faultListInv_acting, by decide⟩

/-- R146: the second NORMAL outcome of two ends the verification, and a count above a lowered verify count stays at 8. -/
theorem test_verify :
    let r := fun n : Nat => { fault 1 .acting with action := some ⟨.hold, .host, .verifying false, none, n, .pending⟩ }
    let s := fun n : Nat => { (onOne fun q => { q with config := { q.config with verifyCount := 2 } }) with
      faults := [r n] }
    ((State.verifyPass (outcomes [.normal]) (s 1) (r 1)).faults.map (·.state) = [.isolated])
      ∧ ((State.verifyPass (outcomes [.normal]) (s 8) (r 8)).faults.map (fun x => (x.state, x.action.map (·.verified)))
        = [(.acting, some 8)]) := by decide

theorem witness_Probe : (12 ≤ 16 ∧ 11 < 12 ∧ 15 < 16 ∧ 65534 < 2 ^ 16 - 1)
    ∧ (let s := roleAnd (.holder .idle) fun q => { q with probeOn := true }
      (s.pair .one).probeOn = true ∧ (s.pair .one).role.name = .holder) := by decide

/-- A valid measurement of repeater 1, present at amplitude 31 and offset 2. -/
def meas (ap delta : Int) (v : Validity) : WindowMeasurement := ⟨1, 200, ap, delta, [], v⟩

/-- What each of the record rules meets: a CANDIDATE near its last offset locks, and a LOCKED one on the same side twice
moves, clamped by its drift limit of 1 (R57, R59, R60). -/
theorem witness_Record :
    (({ rep1 with lock := .candidate, remembered := some 1 } : RepeaterRecord).judge 8 2 (some (meas 31 2 .valid))).record.lock
      = .locked
    ∧ (let j := ({ rep1 with lock := .locked, trackSign := .plus } : RepeaterRecord).judge 8 2 (some (meas 31 2 .valid))
      j.record.centre = 201 ∧ j.record.driftReached = true ∧ j.trackLimit = true ∧ j.outcome = .normal)
    ∧ (rep1.judge 8 2 (some (meas 31 2 .overrange))).overrange = true
    ∧ (({ rep1 with lock := .fading, missCount := 2 } : RepeaterRecord).judge 8 2 (some (meas 7 0 .valid))).outcome
      = .absent := by decide

theorem witness_Candidates :
    let pre : List Known := [⟨1, .normal, 1024⟩]
    let run : List Known := [⟨2, .low, 300⟩, ⟨3, .absent, 5⟩]
    (∀ k ∈ pre ++ [], k.outcome = .normal) ∧ (∀ k ∈ run, k.outcome = .low ∨ k.outcome = .high ∨ k.outcome = .absent)
      ∧ run.head? = some ⟨2, .low, 300⟩ ∧ run.getLast? = some ⟨3, .absent, 5⟩
      ∧ (∀ k ∈ run, k.outcome ≠ .high) ∧ (∃ k ∈ run, k.outcome = .low) := by decide

theorem witness_FaultList :
    FaultListInv (faulty .listen .suspect) ∧ (faulty .listen .suspect).faults = [] ++ fault 1 .suspect :: []
    ∧ FaultListInv State.reset ∧ (∀ x ∈ State.reset.faults, False)
    ∧ (let full := (List.range 32).map fun i => fault (i + 1) (if i = 5 then .cleared else .suspect)
      full.length = 32 ∧ (full.map (·.id)).Nodup ∧ (∃ r ∈ full, r.state = .cleared))
    ∧ ((fault 1 .suspect).masked = false ∧ (fault 1 .suspect).pair = .one)
    ∧ (FaultClass.surge.group = .highest ∧ FaultClass.unstable.group = .farthest ∧ FaultClass.dip.group = .lowest
      ∧ FaultClass.break.group = .nothing)
    ∧ FirstFreeFrom [fault 65535 .suspect, fault 1 .suspect] 65535 2 := by
  refine ⟨⟨by decide, by decide, by decide, by decide⟩, by decide, ⟨by decide, by decide, by decide, by decide⟩, by decide,
    by decide, by decide, by decide, ?_⟩
  exact ⟨2, by decide, by decide, by decide, by decide⟩

/-! ### Witnesses: completions that events take, plans, grants, starts, the tone field, refusals -/

/-- A pair 1 in a role whose last pass has delivered: its completion is due. -/
def due (r : Role) : State :=
  onOne fun q => { q with role := r, records := [rep1], sweep := some (sweep1 (.completing ⟨7, 8⟩)) }

theorem sweepInv_due : SweepInv (due (.holder (.counting 8000000))) :=
  ⟨fun p => by cases p <;> decide, fun p => by cases p <;> decide⟩

/-- Every event that abandons a sweep may meet a completion that is due: DISABLED, ENABLED from LOCAL, RELEASE ROLE, a
collision, a far claim and a return loss; and the refusal that a DISABLED may then make. -/
theorem witness_CompletionDue :
    ((due .synthetic).Ready ∧ ((due .synthetic).pair .one).role = .synthetic
      ∧ ((due .synthetic).pair .one).completionDue = true ∧ (due .synthetic).inFlightOn .one = false)
    ∧ ((due (.holder (.counting 8000000))).Ready ∧ SweepInv (due (.holder (.counting 8000000)))
      ∧ ((due (.holder (.counting 8000000))).pair .one).role = .holder (.counting 8000000)
      ∧ ((due (.holder (.counting 8000000))).pair .one).completionDue = true
      ∧ ((due (.holder (.counting 8000000))).pair .one).config.collisionTime * 16000 ≤ 8000000
      ∧ ((due (.holder (.counting 8000000))).pair .one).config.yieldPolicy = .yield)
    ∧ (let s := (due (.holder .idle)).modPair .one fun q => { q with det := { q.det with lossRun := 256 } }
      (s.pair .one).completionDue = true ∧ (s.pair .one).det.lossDeclared = false
        ∧ (s.pair .one).config.lossRun ≤ (s.pair .one).det.lossRun)
    ∧ (requestOwner 1 (.takeRole 1) (due .synthetic)).2.status.refuses = true
    ∧ Request.takeRole 1 ≠ .setPairMode (pairByte .one) 0 :=
  ⟨⟨ready_onOne _, by decide⟩, ⟨ready_onOne _, sweepInv_due, by decide⟩, by decide⟩

/-- A pair whose completion confirms a fault and starts its sequence: repeater 1 measured LOW, its record SUSPECT, M of N
met, auto-isolation on with policy QUERY. -/
def confirming (r : Role) : State :=
  { onOne (fun q => { q with
      role := r
      records := [{ rep1 with lock := .locked, history := [.low] }]
      config := { q.config with autoIsolation := true, policyStep := .query, confirmM := 1, confirmN := 2 }
      sweep := some { sweep1 (.completing ⟨7, 8⟩) with held := [⟨1, 200, 10, 0, [], .valid⟩] } }) with
    faults := [{ fault 1 .suspect with cls := .step }], nextFaultId := 2 }

/-- R73, R149: parking a LOCAL pair after its last pass has delivered publishes the sweep first, and the sequence that its
fourth stage starts ends with ROLE LOST. -/
theorem test_disabled_takes_completion :
    let t := after (exec (.setPairModeDisabled 1 1) (confirming .synthetic))
    (t.pair .one).role = .parked ∧ (t.pair .one).sweepNumber = 1 ∧ (t.pair .one).published.isSome = true
      ∧ (t.pair .one).sweep = none ∧ t.queue = []
      ∧ t.faults.map (fun r => (r.state, r.action.map (·.result))) = [(.unresolved, some (.exchange .roleLost))] := by
  decide

/-- R15: in HOLDER the QUERY that the completion starts is in flight, and the pair is not parked. -/
theorem test_disabled_refused_after_completion :
    let t := after (exec (.setPairModeDisabled 1 1) (confirming (.holder .idle)))
    (t.pair .one).role = .holder .idle ∧ (t.pair .one).sweepNumber = 1 ∧ t.queue.length = 1
      ∧ t.port.replies = [⟨0x92, 1, [5, 0, 0]⟩] := by decide

/-- The synthetic sample at a chip of +1: baseline 640 gives 2.5, rounded half up; baseline 32,767 gives 128, and 64 with
q = 512 where the injection covers the record; twenty such records are held at 2047 (R28, R29, R31). -/
theorem test_echo :
    let q := (listed .synthetic).pair .one
    let q' := { q with records := [{ rep1 with nominalLag := 0, baseline := 32767 }] }
    ({ q' with records := [{ rep1 with nominalLag := 0, baseline := 640 }] } : PairState).echoSample 3 = 3
    ∧ ({ q' with injected := some ⟨1, 512⟩ } : PairState).echoSample 0 = 64
    ∧ ({ q' with injected := some ⟨2, 512⟩ } : PairState).echoSample 0 = 128
    ∧ ({ q' with records := List.replicate 20 { rep1 with nominalLag := 0, baseline := 32767 } } :
      PairState).echoSample 0 = 2047 := by decide

/-- Each refusal of EDIT REPEATER: a bit that names no item, bits 2 and 3 together, no record, a failing field. -/
theorem witness_EditRefusals : (listed .listen).Ready ∧ 64 ≤ (0x4C : Byte).toNat
    ∧ ((0x0C : Byte).toNat < 64 ∧ ((0x0C : Byte).getLsbD 2 && (0x0C : Byte).getLsbD 3) = true)
    ∧ ((0x33 : Byte).toNat < 64 ∧ ((0x33 : Byte).getLsbD 2 && (0x33 : Byte).getLsbD 3) = false)
    ∧ recordAt ((listed .listen).pair .one).records (2 : Byte).toNat = none
    ∧ recordAt ((listed .listen).pair .one).records (1 : Byte).toNat ≠ none
    ∧ ((0x33 : Byte).getLsbD 4 && !decide (1 ≤ (0 : Half).toNat ∧ (0 : Half).toNat ≤ 32767)) = true
    ∧ ((0x33 : Byte).getLsbD 5 && decide (1 < (2 : Byte).toNat)) = true := ⟨ready_onOne _, by decide⟩

/-- R47, R185: the baseline of 0 is named as field 6 although the low ratio fails too; a missing index is NOT FOUND. -/
theorem test_edit_refusals :
    (after (exec (.editRepeater 1 1 1 0x13 0 1025 1 0 0) (listed .listen))).port.replies = [⟨0xA1, 1, [4, 0, 6]⟩]
    ∧ (after (exec (.editRepeater 1 1 2 0x13 0 1025 1 0 0) (listed .listen))).port.replies = [⟨0xA1, 1, [6, 0, 0]⟩]
    ∧ (after (exec (.editRepeater 1 1 2 0x4C 0 1025 1 0 0) (listed .listen))).port.replies = [⟨0xA1, 1, [4, 0, 0]⟩]
    ∧ (after (exec (.editRepeater 1 1 2 0x0C 0 1025 1 0 0) (listed .listen))).port.replies
      = [⟨0xA1, 1, [4, 0, 9]⟩] := by decide

/-- Two WAITING entries of which the first may not start, then a broadcast: pair 2 is PARKED, pair 1 HOLDER. -/
def starting (tone : ToneField) : State :=
  { onOne (fun q => { q with role := .holder .idle, records := [rep1], tone := tone }) with
    queue := [{ entry .waiting with pair := .two }, entry .waiting,
      { entry .waiting with index := 0, command := .loopbackMute, argument := 1 }] }

theorem witness_StartNext :
    (∀ x ∈ (starting ⟨.free, []⟩).queue, x.isInFlight = false)
    ∧ ((starting ⟨.free, []⟩).queue = [{ entry .waiting with pair := .two }] ++ entry .waiting
        :: [{ entry .waiting with index := 0, command := .loopbackMute, argument := 1 }])
    ∧ ((starting ⟨.free, []⟩).pair .two).role.name ≠ .holder
    ∧ (entry .waiting).isWaiting = true ∧ ((starting ⟨.free, []⟩).pair .one).role.name = .holder
    ∧ ((starting ⟨.free, []⟩).pair .one).det.lossDeclared = false
    ∧ recordAt ((starting ⟨.free, []⟩).pair .one).records 1 = some rep1 ∧ (entry .waiting).index ≠ 0
    ∧ ((starting ⟨.keepBurst 3, []⟩).pair .one).tone.use ≠ .free
    ∧ (∃ e ∈ (flying .toneWait).queue, e.isInFlight = true) ∧ (∀ e ∈ State.reset.queue, False) := by decide

/-- R117, R118: the second entry starts, and a broadcast in its place captures 4095 and no target. -/
theorem test_start_oldest_eligible :
    ((starting ⟨.free, []⟩).startNext.queue.map fun e => match e.state with
      | .inFlight c (.transmitting k ..) => (c.address, k) | _ => (0, 0)) = [(0, 0), (727, 1), (0, 0)]
    ∧ (({ starting ⟨.free, []⟩ with queue := (starting ⟨.free, []⟩).queue.drop 2 } : State).startNext.queue.map
        fun e => match e.state with
          | .inFlight c _ => some (c.address, c.target) | _ => none) = [some (4095, none)] := by decide

/-- The tone field handed over: at the end of a frame, of a cut frame, of a keep burst and of a last symbol. -/
theorem witness_ToneHandOver :
      (let s := (flying (.transmitting 66 80000 true none)).modPair .one fun q => { q with
          tone := ⟨.commandFrame, [.keepBurst]⟩ }
      s.inReset = false ∧ (s.pair .one).tone = ⟨.commandFrame, [.keepBurst]⟩
        ∧ (∀ rest, [ToneAsker.keepBurst] ≠ .commandFrame :: rest) ∧ (s.pair .one).role.name ≠ .yielding)
    ∧ (let s := replying (.holder .idle) ⟨.keepBurst 9, [.commandFrame]⟩ (entry (.inFlight cap .toneWait))
      (s.pair .one).tone = ⟨.keepBurst 9, [.commandFrame]⟩ ∧ s.queue = [] ++ entry (.inFlight cap .toneWait) :: []
        ∧ (entry (.inFlight cap .toneWait)).pair = .one)
    ∧ (let s := replying (.holder .idle) ⟨.lastSymbol .f1 0, [.commandFrame]⟩ (entry (.inFlight cap .toneWait))
      (s.pair .one).tone = ⟨.lastSymbol .f1 0, [.commandFrame]⟩) := by
  refine ⟨⟨by decide, by decide, ?_, by decide⟩, by decide, by decide⟩
  intro rest h
  cases h

/-- R7: a keep burst that waits begins at the end of the frame; a frame that waits begins at the end of the keep burst; a
second order is absorbed. -/
theorem test_tone_hand_over :
    ((after (exec .commandFrameEnd ((flying (.transmitting 66 80000 true none)).modPair .one fun q => { q with
        tone := ⟨.commandFrame, [.keepBurst]⟩ }))).pair .one).tone = ⟨.keepBurst 0, []⟩
    ∧ (after (exec (.keepBurstEnd .one) (replying (.holder .idle) ⟨.keepBurst 9, [.commandFrame]⟩
        (entry (.inFlight cap .toneWait))))).queue = [entry (.inFlight cap (.transmitting 1 0 false none))]
    ∧ keepOrdered ⟨.commandFrame, [.keepBurst]⟩ = ⟨.commandFrame, [.keepBurst]⟩
    ∧ keepOrdered ⟨.commandFrame, []⟩ = ⟨.commandFrame, [.keepBurst]⟩ := by decide

/-- A pair that may sweep and is NO SWEEP; a bank that two pairs wait for with the pointer at 3. -/
theorem witness_PlanAndGrant :
      (((listed (.holder .idle)).pair .one).role.name = .holder
        ∧ ((listed (.holder .idle)).pair .one).det.lossDeclared = false
        ∧ (∃ r ∈ ((listed (.holder .idle)).pair .one).records, r.excluded = false)
        ∧ ((listed (.holder .idle)).pair .one).sweep = none
        ∧ (∀ r ∈ ((listed (.holder .idle)).pair .one).records, r.halfWidth ≤ 15))
    ∧ ((inRole .listen).pair .one).role.name ≠ .holder
    ∧ (let s := { (onOne fun q => { q with sweep := some (sweep1 .ready) }).modPair .two fun q => { q with
          sweep := some (sweep1 .ready) } with pointer := .three }
      s.bank = .idle ∧ (s.pair .one).sweep = some (sweep1 .ready) ∧ (sweep1 .ready).stage = .ready
        ∧ ∀ x ∈ [Pair.one, .two, .three, .four], (s.pair x).passReady = true →
            (pairNumber .one + 4 - pairNumber s.pointer) % 4 ≤ (pairNumber x + 4 - pairNumber s.pointer) % 4)
    ∧ (∀ x ∈ [Pair.one, .two, .three, .four], (State.reset.pair x).passReady = false) := by decide

/-- R69: with the pointer at 3 and pairs 1 and 2 waiting, pair 1 is granted and the pointer moves to 2. -/
theorem test_grant_from_pointer :
    let s := { (onOne fun q => { q with sweep := some (sweep1 .ready) }).modPair .two fun q => { q with
      sweep := some (sweep1 .ready) } with pointer := .three }
    s.arbitrate.bank.holder = some .one ∧ s.arbitrate.pointer = .two ∧ (s.arbitrate.pair .two).passReady = true := by
  decide

/-- Spec 04, a plan of two passes: 150 records of 15 bins fill pass 1 with records 1 to 136 (R67). -/
theorem test_plan_of_150 :
    ((packPasses [] 0 ((List.range 150).map fun i => ⟨i + 1, 100 * (i + 1), 7⟩)).map List.length) = [136, 14] := by
  decide +kernel

/-! ### Witnesses: the invariants -/

theorem witness_StepInvariants : TimeInv State.reset ∧ PortInv State.reset ∧ ToneInv State.reset
    ∧ FaultActionInv State.reset ∧ FaultListInv State.reset ∧ SupervisoryInv State.reset
    ∧ SweepInv State.reset ∧ (∃ t, step State.reset = .next t) :=
  ⟨⟨by decide, by decide⟩, ⟨by decide, by decide⟩, fun p => by cases p <;> decide, fun r h => (by cases h),
    ⟨by decide, by decide, by decide, by decide⟩, ⟨by decide, by decide, by decide⟩,
    ⟨fun p => by cases p <;> decide, fun p => by cases p <;> decide⟩, _, rfl⟩

theorem witness_ListInvariant : ∀ p : Pair, ListInv (State.reset.pair p) := by
  intro p
  cases p <;> exact ⟨by decide, by decide, by decide, fun r h => (by cases h), by decide⟩

end Sys2Proof.Tests
end

section
/-! What each operation of the blocks behind the Message Port keeps, in four strengths: from the fault list and the
supervisory queue, which touch no pair, to the operations that only keep every pair's list sound. One lemma for each
operation, at the strongest of the four that it has. -/

namespace Sys2Proof.Machine

/-! ### The four strengths -/

/-- What no block behind the Message Port changes: the commands that wait, the pins, the Timebase, the receiver, the two
frame queues, the mask and a RESET under way; and no event flag is cleared. -/
structure PartKept (s t : State) : Prop where
  pending : t.pending = s.pending
  inReset : t.inReset = s.inReset
  rate1 : t.rate1 = s.rate1
  rate0 : t.rate0 = s.rate0
  endSetting : t.endSetting = s.endSetting
  time : t.time = s.time
  rx : t.port.rx = s.port.rx
  requests : t.port.requests = s.port.requests
  replies : t.port.replies = s.port.replies
  mask : t.port.mask = s.port.mask
  resetPhase : t.port.resetPhase = s.port.resetPhase
  flags : ∀ (p : Pair) (k : PairFlag),
    (s.port.flags.pairs.get p).get k = true → (t.port.flags.pairs.get p).get k = true

/-- An operation on the fault list, the supervisory queue and the flags: no pair and no pass of the bank is touched. -/
structure BookKept (s t : State) : Prop extends PartKept s t where
  pairs : t.pairs = s.pairs
  bank : t.bank = s.bank

/-- An operation that also grants, plans and aborts passes and takes the tone fields. -/
structure LineKept (s t : State) : Prop extends PartKept s t where
  pair : ∀ p : Pair, PairKept (s.pair p) (t.pair p)

/-- An operation of a completion: records and learning may change, no role does, and every list stays sound. -/
structure StageKept (s t : State) : Prop extends PartKept s t where
  role : ∀ p : Pair, (t.pair p).role = (s.pair p).role
  lists : ∀ p : Pair, ListInv (s.pair p) → ListInv (t.pair p)

/-- Every pair's list stays sound. -/
def KeepsLists (s t : State) : Prop := ∀ p : Pair, ListInv (s.pair p) → ListInv (t.pair p)

/-- An operation that may also change roles. -/
structure TableKept (s t : State) : Prop extends PartKept s t where
  lists : KeepsLists s t

/-- A list's soundness is a matter of the records and the configuration alone. -/
theorem ListInv.congr {q q' : PairState} (h : ListInv q) (hr : q'.records = q.records) (hc : q'.config = q.config) :
    ListInv q' := by
  obtain ⟨room, indices, lags, records, config⟩ := h
  exact ⟨by rwa [hr], by rwa [hr], by rwa [hr], by rwa [hr], by rwa [hr, hc]⟩

theorem PairKept.listInv {q q' : PairState} (h : PairKept q q') (hq : ListInv q) : ListInv q' :=
  hq.congr h.records h.config

theorem PairKept.refl (q : PairState) : PairKept q q := by constructor <;> rfl

theorem PairKept.trans {q q' q'' : PairState} (h : PairKept q q') (h' : PairKept q' q'') : PairKept q q'' := by
  cases h
  cases h'
  constructor <;> simp [*]

/-- The tone channel and the bank write these two fields of a pair. -/
theorem PairKept.of_tone_sweep (q : PairState) (t : ToneField) (w : Option Sweep) :
    PairKept q { q with tone := t, sweep := w } := by constructor <;> rfl

theorem PartKept.refl (s : State) : PartKept s s :=
  ⟨rfl, rfl, rfl, rfl, rfl, rfl, rfl, rfl, rfl, rfl, rfl, fun _ _ h => h⟩

/-- The blocks behind the port write only these fields. -/
theorem PartKept.of_blocks (s : State) (ps : PerPair PairState) (b : Bank) (next : Pair) (fs : List FaultRecord)
    (id : Nat) (es : List QueueEntry) :
    PartKept s { s with pairs := ps, bank := b, pointer := next, faults := fs, nextFaultId := id, queue := es } :=
  ⟨rfl, rfl, rfl, rfl, rfl, rfl, rfl, rfl, rfl, rfl, rfl, fun _ _ h => h⟩

theorem PartKept.trans {s t u : State} (h : PartKept s t) (h' : PartKept t u) : PartKept s u where
  pending := h'.pending.trans h.pending
  inReset := h'.inReset.trans h.inReset
  rate1 := h'.rate1.trans h.rate1
  rate0 := h'.rate0.trans h.rate0
  endSetting := h'.endSetting.trans h.endSetting
  time := h'.time.trans h.time
  rx := h'.rx.trans h.rx
  requests := h'.requests.trans h.requests
  replies := h'.replies.trans h.replies
  mask := h'.mask.trans h.mask
  resetPhase := h'.resetPhase.trans h.resetPhase
  flags p k hf := h'.flags p k (h.flags p k hf)

theorem PartKept.now {s t : State} (h : PartKept s t) : t.now = s.now := by simp [State.now, h.time]

/-- A part that is ready for a request stays so behind the port. -/
theorem PartKept.ready {s t : State} (h : PartKept s t) (hs : s.Ready) : t.Ready where
  running := h.inReset.trans hs.running
  noReset := h.resetPhase.trans hs.noReset
  noRequest := h.requests.trans hs.noRequest
  room := h.replies ▸ hs.room

theorem BookKept.refl (s : State) : BookKept s s := ⟨.refl s, rfl, rfl⟩

theorem BookKept.trans {s t u : State} (h : BookKept s t) (h' : BookKept t u) : BookKept s u :=
  ⟨h.toPartKept.trans h'.toPartKept, h'.pairs.trans h.pairs, h'.bank.trans h.bank⟩

theorem BookKept.pair {s t : State} (h : BookKept s t) (p : Pair) : t.pair p = s.pair p := by simp [State.pair, h.pairs]

theorem BookKept.line {s t : State} (h : BookKept s t) : LineKept s t :=
  ⟨h.toPartKept, fun p => h.pair p ▸ .refl _⟩

theorem LineKept.refl (s : State) : LineKept s s := (BookKept.refl s).line

theorem LineKept.trans {s t u : State} (h : LineKept s t) (h' : LineKept t u) : LineKept s u :=
  ⟨h.toPartKept.trans h'.toPartKept, fun p => (h.pair p).trans (h'.pair p)⟩

theorem LineKept.stage {s t : State} (h : LineKept s t) : StageKept s t :=
  ⟨h.toPartKept, fun p => (h.pair p).role, fun p => (h.pair p).listInv⟩

theorem StageKept.refl (s : State) : StageKept s s := (LineKept.refl s).stage

theorem StageKept.trans {s t u : State} (h : StageKept s t) (h' : StageKept t u) : StageKept s u :=
  ⟨h.toPartKept.trans h'.toPartKept, fun p => (h'.role p).trans (h.role p), fun p hp => h'.lists p (h.lists p hp)⟩

theorem StageKept.table {s t : State} (h : StageKept s t) : TableKept s t := ⟨h.toPartKept, h.lists⟩

theorem BookKept.stage {s t : State} (h : BookKept s t) : StageKept s t := h.line.stage

theorem BookKept.table {s t : State} (h : BookKept s t) : TableKept s t := h.stage.table

theorem LineKept.table {s t : State} (h : LineKept s t) : TableKept s t := h.stage.table

theorem KeepsLists.refl (s : State) : KeepsLists s s := fun _ h => h

theorem KeepsLists.trans {s t u : State} (h : KeepsLists s t) (h' : KeepsLists t u) : KeepsLists s u :=
  fun p hp => h' p (h p hp)

theorem KeepsLists.of_pairs {s t : State} (h : t.pairs = s.pairs) : KeepsLists s t :=
  fun p hp => by simpa [State.pair, h] using hp

theorem TableKept.refl (s : State) : TableKept s s := (StageKept.refl s).table

theorem TableKept.trans {s t u : State} (h : TableKept s t) (h' : TableKept t u) : TableKept s u :=
  ⟨h.toPartKept.trans h'.toPartKept, h.lists.trans h'.lists⟩

/-! ### Folds -/

theorem BookKept.foldl {α : Type} {f : State → α → State} (hf : ∀ s x, BookKept s (f s x)) (xs : List α) (s : State) :
    BookKept s (xs.foldl f s) := by
  induction xs generalizing s with
  | nil => exact .refl s
  | cons x xs ih => exact (hf s x).trans (ih _)

theorem LineKept.foldl {α : Type} {f : State → α → State} (hf : ∀ s x, LineKept s (f s x)) (xs : List α) (s : State) :
    LineKept s (xs.foldl f s) := by
  induction xs generalizing s with
  | nil => exact .refl s
  | cons x xs ih => exact (hf s x).trans (ih _)

/-! ### One pair's update -/

theorem PartKept.setPair (s : State) (p : Pair) (q : PairState) : PartKept s (s.setPair p q) :=
  .of_blocks s _ _ _ _ _ _

/-- A relation between a pair's old and new state that every untouched pair has too holds of every pair. -/
theorem State.forall_pair_setPair {R : PairState → PairState → Prop} (hrefl : ∀ q, R q q) {s : State} {p : Pair}
    {q : PairState} (h : R (s.pair p) q) (p' : Pair) : R (s.pair p') ((s.setPair p q).pair p') := by
  by_cases hp : p' = p
  · subst hp
    simpa using h
  · simpa [State.pair_setPair_other _ _ hp] using hrefl _

theorem LineKept.setPair {s : State} {p : Pair} {q : PairState} (h : PairKept (s.pair p) q) :
    LineKept s (s.setPair p q) :=
  ⟨.setPair s p q, State.forall_pair_setPair PairKept.refl h⟩

theorem LineKept.modPair {s : State} {p : Pair} {f : PairState → PairState} (h : PairKept (s.pair p) (f (s.pair p))) :
    LineKept s (s.modPair p f) := .setPair h

theorem KeepsLists.setPair {s : State} {p : Pair} {q : PairState} (h : ListInv (s.pair p) → ListInv q) :
    KeepsLists s (s.setPair p q) :=
  State.forall_pair_setPair (R := fun q q' => ListInv q → ListInv q') (fun _ h => h) h

theorem StageKept.modPair {s : State} {p : Pair} {f : PairState → PairState} (hr : (f (s.pair p)).role = (s.pair p).role)
    (h : ListInv (s.pair p) → ListInv (f (s.pair p))) : StageKept s (s.modPair p f) :=
  ⟨.setPair s p _, State.forall_pair_setPair (R := fun q q' => q'.role = q.role) (fun _ => rfl) hr,
    KeepsLists.setPair h⟩

theorem TableKept.setPair {s : State} {p : Pair} {q : PairState} (h : ListInv (s.pair p) → ListInv q) :
    TableKept s (s.setPair p q) := ⟨.setPair s p q, .setPair h⟩

theorem TableKept.modPair {s : State} {p : Pair} {f : PairState → PairState}
    (h : ListInv (s.pair p) → ListInv (f (s.pair p))) : TableKept s (s.modPair p f) := .setPair h

/-! ### Flags, the transmitter and the bookkeeping of faults and entries -/

theorem State.setPairFlag_kept (s : State) (p : Pair) (k : PairFlag) : BookKept s (s.setPairFlag p k) :=
  ⟨⟨rfl, rfl, rfl, rfl, rfl, rfl, rfl, rfl, rfl, rfl, rfl,
    fun p' k' h => State.setPairFlag_get_mono s p p' k k' h⟩, rfl, rfl⟩

theorem State.setPairFlagIf_kept (s : State) (b : Bool) (p : Pair) (k : PairFlag) :
    BookKept s (s.setPairFlagIf b p k) := by
  unfold State.setPairFlagIf
  split
  · exact s.setPairFlag_kept p k
  · exact .refl s

theorem State.transmit_kept (s : State) : BookKept s s.transmit :=
  ⟨⟨by simp, by simp, by simp, by simp, by simp, by simp, by simp, by simp, by simp, by simp, by simp,
    fun _ _ h => by simpa using h⟩, by simp, by simp⟩

theorem State.withFaults_kept (s : State) (fs : List FaultRecord) (next : Nat) :
    BookKept s { s with faults := fs, nextFaultId := next } :=
  ⟨.of_blocks s _ _ _ _ _ _, rfl, rfl⟩

theorem State.withQueue_kept (s : State) (es : List QueueEntry) : BookKept s { s with queue := es } :=
  ⟨.of_blocks s _ _ _ _ _ _, rfl, rfl⟩

theorem State.modFault_kept (s : State) (i : Nat) (f : FaultRecord → FaultRecord) : BookKept s (s.modFault i f) :=
  s.withFaults_kept _ _

theorem State.modFlight_kept (s : State) (f : QueueEntry → QueueEntry) : BookKept s (s.modFlight f) :=
  s.withQueue_kept _

theorem State.beginTransmission_kept (s : State) : BookKept s s.beginTransmission := s.modFlight_kept _

theorem State.enqueue_kept (s : State) (o : Origin) (p : Pair) (i : Nat) (c : Command) (n : Nat) :
    BookKept s (s.enqueue o p i c n) := s.withQueue_kept _

/-! ### Sequences -/

theorem State.enqueueStep_kept (s : State) (r : FaultRecord) (c : Command) (n : Nat) (f : CommandStep) :
    BookKept s (s.enqueueStep r c n f) := by
  unfold State.enqueueStep
  split
  · exact (s.enqueue_kept ..).trans (State.modFault_kept ..)
  · exact s.modFault_kept ..

theorem State.endSequence_kept (s : State) (r : FaultRecord) (x : ActionResult) (st : FaultState) :
    BookKept s (s.endSequence r x st) := (s.modFault_kept ..).trans (State.setPairFlag_kept ..)

theorem State.startSequence_kept (s : State) (r : FaultRecord) (a : Action) (o : ActionOrigin) (w : Option Half) :
    BookKept s (s.startSequence r a o w) :=
  ((s.modFault_kept ..).trans (State.setPairFlag_kept ..)).trans (State.enqueueStep_kept ..)

theorem State.queryDone_kept (s : State) (r : FaultRecord) (a : ActionPart) (reply : List Byte) :
    BookKept s (s.queryDone r a reply) := by
  unfold State.queryDone
  refine BookKept.trans (t := s.storeStatus r (statusOf reply)) (s.modFault_kept ..) ?_
  dsimp only
  split
  · split
    · exact State.enqueueStep_kept ..
    · exact State.endSequence_kept ..
  · exact State.endSequence_kept ..

theorem State.commandDone_kept (s : State) (r : FaultRecord) (a : ActionPart) : BookKept s (s.commandDone r a) := by
  unfold State.commandDone
  split
  · exact s.endSequence_kept ..
  · exact s.modFault_kept ..

theorem State.deliver_kept (s : State) (id : Nat) (x : ExchangeResult) (reply : List Byte) :
    BookKept s (s.deliver id x reply) := by
  unfold State.deliver
  split
  · exact .refl s
  · split
    · split
      · exact s.queryDone_kept ..
      · exact s.commandDone_kept ..
      · exact s.endSequence_kept ..
      · exact s.endSequence_kept ..
      · exact .refl s
    · exact .refl s

theorem State.endWaitingSteps_kept (s : State) (p : Pair) : BookKept s (s.endWaitingSteps p) :=
  BookKept.foldl (fun s r => s.endSequence_kept r _ _) _ s

theorem State.removeWaiting_kept (s : State) (p : Pair) : BookKept s (s.removeWaiting p) :=
  (s.withQueue_kept _).trans (BookKept.foldl (fun s id => s.deliver_kept id _ _) _ _)

theorem State.loseRole_kept (s : State) (p : Pair) : BookKept s (s.loseRole p) :=
  (s.endWaitingSteps_kept p).trans (State.removeWaiting_kept _ p)

theorem State.verifyPass_kept (ks : List Known) (s : State) (r : FaultRecord) : BookKept s (State.verifyPass ks s r) := by
  unfold State.verifyPass
  split
  · split
    · unfold State.verify
      split
      · exact s.modFault_kept ..
      · split
        · exact .refl s
        · dsimp only
          split
          · exact (s.modFault_kept ..).trans (State.endSequence_kept ..)
          · exact s.modFault_kept ..
        · exact s.endSequence_kept ..
    · exact .refl s
  · exact .refl s

theorem State.waitingPass_kept (s : State) (r : FaultRecord) : BookKept s (s.waitingPass r) := by
  unfold State.waitingPass
  split
  · split
    · exact s.enqueueStep_kept ..
    · exact .refl s
  · exact .refl s

theorem State.autoStart_kept (s : State) (id : Nat) : BookKept s (s.autoStart id) := by
  unfold State.autoStart
  split
  · exact .refl s
  · dsimp only
    split
    · exact s.startSequence_kept ..
    · exact .refl s

theorem State.settle_kept (s : State) (e : QueueEntry) (x : ExchangeResult) (reply : List Byte) :
    BookKept s (s.settle e x reply) := by
  unfold State.settle
  split
  · exact s.modFlight_kept _
  · exact (s.withQueue_kept _).trans (State.deliver_kept ..)

/-! ### The fault list -/

theorem State.removeFaults_kept (s : State) (p : Pair) : BookKept s (s.removeFaults p) :=
  (s.withFaults_kept _ _).trans (State.setPairFlagIf_kept ..)

theorem State.openFault_kept (s : State) (p : Pair) (c : Candidate) (n : BitVec 48) (stamp : LineTime) :
    BookKept s (s.openFault p c n stamp) := (s.withFaults_kept _ _).trans (State.setPairFlag_kept ..)

theorem State.evictCleared_kept (s : State) (r : FaultRecord) : BookKept s (s.evictCleared r) :=
  (s.withFaults_kept _ _).trans (State.setPairFlag_kept ..)

theorem State.matchCandidate_kept (p : Pair) (n : BitVec 48) (stamp : LineTime) (s : State) (c : Candidate) :
    BookKept s (State.matchCandidate p n stamp s c) := by
  unfold State.matchCandidate
  split
  · exact (s.withFaults_kept _ _).trans (State.setPairFlagIf_kept ..)
  · unfold State.openOrDrop
    split
    · exact s.openFault_kept ..
    · split
      · exact (s.evictCleared_kept _).trans (State.openFault_kept ..)
      · exact s.setPairFlag_kept ..

theorem State.maskFaults_kept (s : State) (p : Pair) : BookKept s (s.maskFaults p) :=
  (s.withFaults_kept _ _).trans (State.setPairFlagIf_kept ..)

theorem State.judgeFaults_kept (s : State) (p : Pair) (cs : List Candidate) (stamp : LineTime) :
    BookKept s (s.judgeFaults p cs stamp) := (s.withFaults_kept _ _).trans (State.setPairFlagIf_kept ..)

theorem State.localize_kept (s : State) (p : Pair) (ks : List Known) (n : BitVec 48) (stamp : LineTime) :
    BookKept s (s.localize p ks n stamp).1 :=
  (((BookKept.foldl (fun s c => State.matchCandidate_kept p n stamp s c) _ s).trans (State.maskFaults_kept _ p)).trans
    (State.judgeFaults_kept ..)).trans (State.maskFaults_kept ..)

/-! ### The bank and the sweeps -/

theorem State.withBank_kept (s : State) (b : Bank) : LineKept s { s with bank := b } :=
  ⟨.of_blocks _ _ _ _ _ _ _, fun p => .refl (s.pair p)⟩

theorem State.abortPass_kept (s : State) (p : Pair) : LineKept s (s.abortPass p) := by
  rcases s.abortPass_cases p with ⟨_, h⟩ | ⟨_, h⟩ <;> rw [h]
  · exact .refl s
  · exact s.withBank_kept _

theorem State.planSweep_kept (s : State) (await : Bool) (p : Pair) : LineKept s (s.planSweep await p) := by
  rcases s.planSweep_cases await p with h | ⟨_, _, h⟩ <;> rw [h]
  · exact .refl s
  · exact .setPair (.of_tone_sweep _ _ _)

theorem State.arbitrate_kept (s : State) : LineKept s s.arbitrate := by
  rcases s.arbitrate_cases with h | ⟨p, w, _, _, _, h⟩ <;> rw [h]
  · exact .refl s
  · exact (LineKept.setPair (s := s) (.of_tone_sweep (s.pair p) _ _)).trans
      ⟨.of_blocks _ _ _ _ _ _ _, fun p' => .refl _⟩

theorem State.considerSweep_kept (s : State) (p : Pair) : LineKept s (s.considerSweep p) :=
  (s.planSweep_kept false p).trans (State.arbitrate_kept _)

theorem State.replan_kept (s : State) (p : Pair) : LineKept s (s.replan p) :=
  (s.planSweep_kept true p).trans (State.arbitrate_kept _)

theorem State.abandonSweep_kept (s : State) (p : Pair) : LineKept s (s.abandonSweep p) := by
  rcases s.abandonSweep_cases p with h | ⟨_, _, _, h⟩ <;> rw [h]
  · exact .refl s
  · exact (s.abortPass_kept p).trans (.modPair (.of_tone_sweep _ _ _))

theorem State.yieldSweep_kept (s : State) (p : Pair) (m : YieldMode) : LineKept s (s.yieldSweep p m) := by
  unfold State.yieldSweep
  split
  · exact s.abandonSweep_kept p
  · unfold State.abandonUnlessRunning
    split
    · exact .refl s
    · exact s.abandonSweep_kept p

/-! ### The tone fields -/

theorem State.orderKeep_kept (s : State) (p : Pair) : LineKept s (s.orderKeep p) := by
  rw [State.orderKeep_eq]
  exact .modPair (.of_tone_sweep _ _ _)

theorem State.askTone_kept (s : State) (p : Pair) : LineKept s (s.askTone p) := by
  rcases s.askTone_cases p with ⟨_, h⟩ | ⟨_, h⟩ <;> rw [h]
  · exact (LineKept.modPair (.of_tone_sweep _ _ _)).trans (State.beginTransmission_kept _).line
  · exact (LineKept.modPair (.of_tone_sweep _ _ _)).trans (State.modFlight_kept ..).line

theorem State.releaseTone_kept (s : State) (p : Pair) : LineKept s (s.releaseTone p) := by
  rcases s.releaseTone_cases p with ⟨_, h⟩ | ⟨_, _, h⟩ | ⟨_, _, h⟩ <;> rw [h]
  · exact .modPair (.of_tone_sweep _ _ _)
  · exact .modPair (.of_tone_sweep _ _ _)
  · exact (LineKept.modPair (.of_tone_sweep _ _ _)).trans (State.beginTransmission_kept _).line

theorem State.startNext_kept (s : State) : LineKept s s.startNext := by
  rcases s.startNext_cases with h | ⟨_, _, _, h⟩ <;> rw [h]
  · exact .refl s
  · exact (s.withQueue_kept _).line.trans (State.askTone_kept ..)

theorem State.isolationStage_kept (s : State) (p : Pair) (ks : List Known) (named : List Nat) :
    LineKept s (s.isolationStage p ks named) :=
  (((BookKept.foldl (State.verifyPass_kept ks) _ s).trans (BookKept.foldl State.waitingPass_kept _ _)).trans
    (BookKept.foldl State.autoStart_kept _ _)).line.trans (State.startNext_kept _)

theorem State.judgeStages_kept (s : State) (p : Pair) (ks : List Known) (n : BitVec 48) (stamp : LineTime) :
    LineKept s (s.judgeStages p ks n stamp) := by
  unfold State.judgeStages
  split
  · exact s.isolationStage_kept ..
  · exact (s.localize_kept ..).line.trans (State.isolationStage_kept ..)

end Sys2Proof.Machine
end

section
/-! Parameters and records: what passing R11 says, and that each operation on a record keeps its fields in range (R44, R47,
R57, R60, R62). -/

namespace Sys2Proof.Machine

/-! ### The parameters of a pair (R9, R11) -/

theorem inRange_iff {v lo hi : Nat} : inRange v lo hi = true ↔ lo ≤ v ∧ v ≤ hi := by simp [inRange]

/-- No parameter fails exactly when each of the 32 passes. -/
theorem firstFailing_eq_none {ps : List Nat} {rs : List RepeaterRecord} :
    firstFailing ps rs = none ↔ ∀ n, 1 ≤ n → n ≤ 32 → paramPasses ps rs n = true := by
  constructor
  · intro h n h1 h2
    have := List.find?_eq_none.mp h n (List.mem_map.mpr ⟨n - 1, List.mem_range.mpr (by omega), by omega⟩)
    simpa using this
  · intro h
    refine List.find?_eq_none.mpr fun n hn => ?_
    obtain ⟨i, hi, rfl⟩ := List.mem_map.mp hn
    simp [h (i + 1) (by omega) (by have := List.mem_range.mp hi; omega)]

/-- The list that a configuration stands against matters to the order alone. -/
theorem paramPasses_eq (ps : List Nat) (rs : List RepeaterRecord) (n : Nat) :
    paramPasses ps rs n = (paramPasses ps [] n && (decide (n ≠ 1) || windowsFit rs (lengthOf (param ps n)))) := by
  by_cases hn : n = 1
  · subst hn
    simp [paramPasses, windowsFit]
  · simp only [hn, ne_eq, not_false_eq_true, decide_true, Bool.true_or, Bool.and_true]
    unfold paramPasses
    split
    case h_1 => exact absurd rfl hn
    all_goals rfl

theorem firstFailing_eq_none_iff {ps : List Nat} {rs : List RepeaterRecord} :
    firstFailing ps rs = none ↔ firstFailing ps [] = none ∧ windowsFit rs (lengthOf (param ps 1)) = true := by
  simp only [firstFailing_eq_none, paramPasses_eq ps rs]
  constructor
  · intro h
    exact ⟨fun n h1 h2 => (Bool.and_eq_true_iff.mp (h n h1 h2)).1,
      by simpa using (Bool.and_eq_true_iff.mp (h 1 (by omega) (by omega))).2⟩
  · rintro ⟨h, hw⟩ n h1 h2
    by_cases hn : n = 1
    · subst hn
      simp [h 1 h1 h2, hw]
    · simp [h n h1 h2, hn]

theorem policyOf_code {c : FaultClass} {v : Nat} (h : policyFits c v = true) : ((policyOf v).getD .nothing).code = v := by
  match v with
  | 0 | 1 | 2 | 3 => rfl
  | v + 4 => simp [policyFits, policyOf] at h

/-- A parameter that passes R11 and is stored as a choice reads back as it was sent. -/
theorem PairConfig.toParams_ofParams {ps : List Nat} {rs : List RepeaterRecord} (h : firstFailing ps rs = none) :
    (PairConfig.ofParams ps).toParams = (List.range 32).map fun i => param ps (i + 1) := by
  have hp := firstFailing_eq_none.mp h
  have bit {n : Nat} (hn : inRange (param ps n) 0 1 = true) : param ps n = 0 ∨ param ps n = 1 := by
    have := inRange_iff.mp hn
    omega
  have p12 : (ofParams ps).yieldPolicy.code = param ps 12 := by
    show (if param ps 12 = 1 then YieldPolicy.keep else .yield).code = _
    rcases bit (hp 12 (by omega) (by omega)) with e | e <;> rw [e] <;> rfl
  have p13 : (ofParams ps).yieldMode.code = param ps 13 := by
    show (if param ps 13 = 1 then YieldMode.prompt else .graceful).code = _
    rcases bit (hp 13 (by omega) (by omega)) with e | e <;> rw [e] <;> rfl
  have p14 : (ofParams ps).checkMode.code = param ps 14 := by
    show (if param ps 14 = 1 then CheckMode.enhanced else .classic).code = _
    rcases bit (hp 14 (by omega) (by omega)) with e | e <;> rw [e] <;> rfl
  have p26 : (if (ofParams ps).autoIsolation = true then 1 else 0) = param ps 26 := by
    show (if (param ps 26 == 1) = true then 1 else 0) = _
    rcases bit (hp 26 (by omega) (by omega)) with e | e <;> rw [e] <;> rfl
  have p27 : (ofParams ps).policyBreak.code = param ps 27 := policyOf_code (hp 27 (by omega) (by omega))
  have p28 : (ofParams ps).policyLoopback.code = param ps 28 := policyOf_code (hp 28 (by omega) (by omega))
  have p29 : (ofParams ps).policyDip.code = param ps 29 := policyOf_code (hp 29 (by omega) (by omega))
  have p30 : (ofParams ps).policyStep.code = param ps 30 := policyOf_code (hp 30 (by omega) (by omega))
  have p31 : (ofParams ps).policySurge.code = param ps 31 := policyOf_code (hp 31 (by omega) (by omega))
  have p32 : (ofParams ps).policyUnstable.code = param ps 32 := policyOf_code (hp 32 (by omega) (by omega))
  simp only [PairConfig.toParams, p12, p13, p14, p26, p27, p28, p29, p30, p31, p32]
  rfl

/-- 32 numbers that pass are the parameters of the configuration they give (R10). -/
theorem PairConfig.toParams_ofParams_of_length {ps : List Nat} {rs : List RepeaterRecord} (h : firstFailing ps rs = none)
    (hl : ps.length = 32) : (PairConfig.ofParams ps).toParams = ps := by
  rw [PairConfig.toParams_ofParams h]
  refine List.ext_getElem (by simp [hl]) fun i h1 h2 => ?_
  simp [param, h2]

/-- A configuration taken from numbers that pass R11 passes R11. -/
theorem PairConfig.ofParams_passes {ps : List Nat} {rs : List RepeaterRecord} (h : firstFailing ps rs = none) :
    firstFailing (PairConfig.ofParams ps).toParams rs = none := by
  have same {n : Nat} (h1 : 1 ≤ n) (h2 : n ≤ 32) : param (PairConfig.ofParams ps).toParams n = param ps n := by
    have hn : n - 1 < 32 := by omega
    rw [PairConfig.toParams_ofParams h]
    simp [param, hn]
  rw [firstFailing_eq_none] at h ⊢
  intro n h1 h2
  have hn := h n h1 h2
  have h9 := same (n := 9) (by omega) (by omega)
  unfold paramPasses at hn ⊢
  rw [same h1 h2, h9]
  exact hn

/-! ### Records -/

/-- What every operation on a stored record keeps: its index and its window, and its fields in range. -/
structure RecordKept (r r' : RepeaterRecord) : Prop where
  index : r'.index = r.index
  nominalLag : r'.nominalLag = r.nominalLag
  halfWidth : r'.halfWidth = r.halfWidth
  driftLimit : r'.driftLimit = r.driftLimit
  sound : RecordInv r → RecordInv r'

theorem RecordKept.refl (r : RepeaterRecord) : RecordKept r r := ⟨rfl, rfl, rfl, rfl, id⟩

theorem RecordKept.trans {r r' r'' : RepeaterRecord} (h : RecordKept r r') (h' : RecordKept r' r'') :
    RecordKept r r'' where
  index := h'.index.trans h.index
  nominalLag := h'.nominalLag.trans h.nominalLag
  halfWidth := h'.halfWidth.trans h.halfWidth
  driftLimit := h'.driftLimit.trans h.driftLimit
  sound hr := h'.sound (h.sound hr)

/-- A list in which every record has been kept is as sound as it was. -/
theorem ListInv.mapRecords {q q' : PairState} (h : ListInv q) {f : RepeaterRecord → RepeaterRecord}
    (hf : ∀ r ∈ q.records, RecordKept r (f r)) (hr : q'.records = q.records.map f) (hc : q'.config = q.config) :
    ListInv q' where
  room := by simpa [hr] using h.room
  indices := by
    have : q'.records.map (·.index) = q.records.map (·.index) := by
      rw [hr, List.map_map]
      exact List.map_congr_left fun r hr => (hf r hr).index
    rw [this, h.indices, hr, List.length_map]
  lags := by
    have : q'.records.map (·.nominalLag) = q.records.map (·.nominalLag) := by
      rw [hr, List.map_map]
      exact List.map_congr_left fun r hr => (hf r hr).nominalLag
    rw [this]
    exact h.lags
  records := by
    rw [hr]
    intro r' hr'
    obtain ⟨r, hr, rfl⟩ := List.mem_map.mp hr'
    exact (hf r hr).sound (h.records r hr)
  config := by
    obtain ⟨hps, hw⟩ := firstFailing_eq_none_iff.mp h.config
    rw [hc, hr]
    refine firstFailing_eq_none_iff.mpr ⟨hps, ?_⟩
    rw [windowsFit, List.all_eq_true] at hw ⊢
    intro r' hr'
    obtain ⟨r, hr, rfl⟩ := List.mem_map.mp hr'
    have e := hf r hr
    rw [e.nominalLag, e.driftLimit, e.halfWidth]
    exact hw r hr

/-- The fresh state of a sound record is sound (R42). -/
theorem RepeaterRecord.fresh_kept (r : RepeaterRecord) : RecordKept r r.fresh :=
  ⟨rfl, rfl, rfl, rfl, fun h =>
    { h with
      centre := ⟨Nat.le_add_right _ _, Nat.le_add_right _ _⟩
      lock := rfl
      history := ⟨Nat.zero_le _, List.not_mem_nil⟩
      edits := ⟨rfl, rfl, rfl, rfl⟩ }⟩

theorem RepeaterRecord.exclude_kept (r : RepeaterRecord) : RecordKept r r.exclude := by
  unfold RepeaterRecord.exclude
  split <;> exact ⟨rfl, rfl, rfl, rfl, fun h => { h with }⟩

theorem RepeaterRecord.restore_kept (r : RepeaterRecord) : RecordKept r r.restore := by
  unfold RepeaterRecord.restore
  split
  · exact ⟨rfl, rfl, rfl, rfl, fun h => { r.fresh_kept.sound h with edits := h.edits }⟩
  · exact .refl r

theorem RepeaterRecord.mute_kept (r : RepeaterRecord) : RecordKept r r.mute := by
  unfold RepeaterRecord.mute
  split
  · exact .refl r
  · exact ⟨rfl, rfl, rfl, rfl, fun h => { h with }⟩

theorem RepeaterRecord.unmute_kept (r : RepeaterRecord) : RecordKept r r.unmute := by
  unfold RepeaterRecord.unmute
  split
  · exact r.restore_kept
  · exact .refl r

/-- The update of the record of one index keeps every record that the update keeps. -/
theorem ListInv.modRecord {q q' : PairState} (h : ListInv q) {i : Nat} {f : RepeaterRecord → RepeaterRecord}
    (hf : ∀ r, RecordKept r (f r)) (hr : q'.records = Machine.modRecord q.records i f) (hc : q'.config = q.config) :
    ListInv q' := by
  refine h.mapRecords (f := fun r => if r.index = i then f r else r) (fun r _ => ?_) hr hc
  split
  · exact hf r
  · exact .refl r

/-! ### Edits (R47 to R50) -/

/-- Edits that pass the numbered checks of R47. -/
theorem EditChanges.within {c : EditChanges} (h : [6, 7, 8, 9, 10].find? c.fails = none) :
    pendingWithin 1 1023 c.low = true ∧ pendingWithin 1025 65534 c.high = true
      ∧ pendingWithin 1 32767 c.baseline = true ∧ pendingWithin 1 32767 (c.presence.getD none) = true := by
  have pass {n : Nat} (hn : n ∈ [6, 7, 8, 9, 10]) : c.fails n = false := by
    simpa using List.find?_eq_none.mp h n hn
  have h7 := pass (n := 7) (by simp)
  have h8 := pass (n := 8) (by simp)
  have h6 := pass (n := 6) (by simp)
  have h9 := pass (n := 9) (by simp)
  obtain ⟨low, high, presence, baseline, excluded⟩ := c
  refine ⟨?_, ?_, ?_, ?_⟩
  · cases low <;> simp_all [EditChanges.fails, changeFails, pendingWithin]
  · cases high <;> simp_all [EditChanges.fails, changeFails, pendingWithin]
  · cases baseline <;> simp_all [EditChanges.fails, changeFails, pendingWithin]
  · rcases presence with _ | _ | v <;> simp_all [EditChanges.fails, pendingWithin]

theorem pendingWithin_newer {lo hi : Nat} {new old : Option Nat} (hn : pendingWithin lo hi new = true)
    (ho : pendingWithin lo hi old = true) : pendingWithin lo hi (newer new old) = true := by
  cases new
  · exact ho
  · exact hn

theorem RepeaterRecord.edit_kept (r : RepeaterRecord) {c : EditChanges} (h : [6, 7, 8, 9, 10].find? c.fails = none) :
    RecordKept r (r.edit c) := by
  obtain ⟨low, high, baseline, presence⟩ := EditChanges.within h
  have stored : RecordKept r { r with edits := r.edits.store c } := by
    refine ⟨rfl, rfl, rfl, rfl, fun hr => { hr with edits := ?_ }⟩
    obtain ⟨l, hi, b, p⟩ := hr.edits
    refine ⟨pendingWithin_newer low l, pendingWithin_newer high hi, pendingWithin_newer baseline b, ?_⟩
    show pendingWithin 1 32767 ((newer c.presence r.edits.presence).getD none) = true
    cases hc : c.presence with
    | none => exact p
    | some v => simpa [newer, hc] using presence
  unfold RepeaterRecord.edit
  dsimp only
  split
  · split
    · exact stored.trans (RepeaterRecord.exclude_kept _)
    · exact stored.trans (RepeaterRecord.restore_kept _)
  · exact stored

theorem getD_within {lo hi v : Nat} {o : Option Nat} (ho : pendingWithin lo hi o = true) (hv : lo ≤ v ∧ v ≤ hi) :
    lo ≤ o.getD v ∧ o.getD v ≤ hi := by
  cases o
  · exact hv
  · exact inRange_iff.mp ho

theorem RepeaterRecord.applyEdits_kept (r : RepeaterRecord) : RecordKept r r.applyEdits := by
  refine ⟨rfl, rfl, rfl, rfl, fun h => ?_⟩
  obtain ⟨low, high, baseline, presence⟩ := h.edits
  obtain ⟨l1, l2, h1, h2⟩ := h.ratios
  have hl := getD_within low ⟨l1, l2⟩
  have hh := getD_within high ⟨h1, h2⟩
  exact
    { h with
      ratios := ⟨hl.1, hl.2, hh.1, hh.2⟩
      baseline := getD_within baseline h.baseline
      presence := by
        show pendingWithin 1 32767 (r.edits.presence.getD r.presence) = true
        cases hp : r.edits.presence with
        | none => exact h.presence
        | some v => simpa [hp] using presence
      edits := ⟨rfl, rfl, rfl, rfl⟩ }

/-! ### Learning (R107, R108) -/

theorem RepeaterRecord.clearLearn_kept (r : RepeaterRecord) : RecordKept r r.clearLearn :=
  ⟨rfl, rfl, rfl, rfl, fun h => { h with }⟩

theorem RepeaterRecord.learn_kept (r : RepeaterRecord) (d : Nat) (ms : List WindowMeasurement) :
    RecordKept r (r.learn d ms) := by
  unfold RepeaterRecord.learn
  split
  · split
    · exact ⟨rfl, rfl, rfl, rfl, fun h => { h with }⟩
    · exact .refl r
  · exact .refl r

theorem RepeaterRecord.finishLearn_kept (r : RepeaterRecord) (n : Nat) : RecordKept r (r.finishLearn n) := by
  unfold RepeaterRecord.finishLearn
  split
  · refine ⟨rfl, rfl, rfl, rfl, fun h => { h with baseline := ?_, history := ⟨Nat.zero_le _, List.not_mem_nil⟩ }⟩
    dsimp only
    omega
  · exact ⟨rfl, rfl, rfl, rfl, fun h => { h with }⟩

/-! ### The judgement of a record (R53 to R62) -/

/-- The miss count and remembered offset that a lock state goes with (R57). -/
def LockState.fits (lock : LockState) (miss : Nat) (remembered : Option Int) : Prop :=
  match lock with
  | .search | .locked => miss = 0 ∧ remembered = none
  | .candidate => miss = 0 ∧ remembered ≠ none
  | .fading => 1 ≤ miss ∧ miss ≤ 2 ∧ remembered = none
  | .lost => miss = 3 ∧ remembered = none

theorem RepeaterRecord.lockFits_iff (r : RepeaterRecord) :
    r.lockFits = true ↔ r.lock.fits r.missCount r.remembered ∧ (r.lock ≠ .locked → r.trackSign = .unset) := by
  cases hl : r.lock <;>
    simp [RepeaterRecord.lockFits, LockState.fits, hl, inRange, Option.isSome_iff_ne_none, and_assoc]

/-- Every transition of the lock state keeps its counts (R57). -/
theorem lockStep_fits {lock : LockState} {miss : Nat} {remembered : Option Int} (h : lock.fits miss remembered)
    (present : Bool) (delta : Int) :
    (lockStep lock miss remembered present delta).1.fits (lockStep lock miss remembered present delta).2.1
      (lockStep lock miss remembered present delta).2.2 := by
  cases lock <;> cases present <;> simp only [LockState.fits] at h
  case candidate.true =>
    unfold lockStep
    dsimp only
    split <;> simp [LockState.fits, h]
  case fading.false =>
    unfold lockStep
    dsimp only
    split <;> simp [LockState.fits, h] <;> omega
  all_goals simp [lockStep, LockState.fits, h]

/-- A record takes another lock state with counts that go with it. -/
theorem RepeaterRecord.setLock_kept (r : RepeaterRecord) {lock : LockState} {miss : Nat} {remembered : Option Int}
    {sign : TrackSign} {amp : Option Int} (hl : RecordInv r → lock.fits miss remembered)
    (hs : lock ≠ .locked → sign = .unset) :
    RecordKept r { r with
      lock := lock, missCount := miss, remembered := remembered, trackSign := sign, lastLockedAmp := amp } :=
  ⟨rfl, rfl, rfl, rfl, fun h => { h with lock := (RepeaterRecord.lockFits_iff _).mpr ⟨hl h, hs⟩ }⟩

/-- A centre move stays within the drift limit (R60). -/
theorem RepeaterRecord.moveCentre_kept (r : RepeaterRecord) (delta : Int) : RecordKept r (r.moveCentre delta) := by
  refine ⟨rfl, rfl, rfl, rfl, fun h => { h with centre := ?_ }⟩
  have hw := h.window.2
  show r.nominalLag ≤ (clampInt _ _ _).toNat + r.driftLimit ∧ (clampInt _ _ _).toNat ≤ r.nominalLag + r.driftLimit
  unfold clampInt
  omega

/-- Tracking of a LOCKED record (R59). -/
theorem RepeaterRecord.track_kept (r : RepeaterRecord) (hl : r.lock = .locked) (t : Nat) (delta : Int) :
    RecordKept r (r.track t delta) := by
  have sign (r : RepeaterRecord) (hl : r.lock = .locked) (s : TrackSign) : RecordKept r { r with trackSign := s } :=
    ⟨rfl, rfl, rfl, rfl, fun h =>
      { h with
        lock := (RepeaterRecord.lockFits_iff _).mpr
          ⟨((RepeaterRecord.lockFits_iff r).mp h.lock).1, fun hne => absurd hl hne⟩ }⟩
  unfold RepeaterRecord.track
  split
  · exact sign r hl _
  · split
    · exact (r.moveCentre_kept delta).trans (sign (r.moveCentre delta) hl _)
    · exact sign r hl _

theorem RepeaterRecord.lockAndTrack_kept (r : RepeaterRecord) (d t : Nat) (ap delta : Int) :
    RecordKept r (r.lockAndTrack d t ap delta).1 := by
  have fits (h : RecordInv r) := lockStep_fits ((RepeaterRecord.lockFits_iff r).mp h.lock).1
    (decide ((r.presence.getD d : Int) ≤ ap)) delta
  unfold RepeaterRecord.lockAndTrack
  dsimp only
  split
  next hl =>
    split
    · exact (r.setLock_kept fits fun hne => absurd hl hne).trans (RepeaterRecord.track_kept _ hl _ _)
    · exact r.setLock_kept fits fun hne => absurd hl hne
  next => exact r.setLock_kept fits fun _ => rfl

/-- The history stays within 16 known outcomes (R62). -/
theorem pushHistory_known {h : List EchoOutcome} (hh : h.length ≤ 16 ∧ EchoOutcome.unknown ∉ h) (o : EchoOutcome) :
    (pushHistory h o).length ≤ 16 ∧ EchoOutcome.unknown ∉ pushHistory h o := by
  cases o with
  | unknown => exact hh
  | _ =>
    refine ⟨by simp [pushHistory, Config.maxHistory], fun hm => hh.2 ?_⟩
    have := List.mem_of_mem_take hm
    simpa using this

theorem RepeaterRecord.judge_kept (r : RepeaterRecord) (d t : Nat) (m : Option WindowMeasurement) :
    RecordKept r (r.judge d t m).record := by
  unfold RepeaterRecord.judge
  split
  · exact .refl r
  next m =>
    have received : RecordKept r (r.receive m) := ⟨rfl, rfl, rfl, rfl, fun h => { h with }⟩
    dsimp only
    split
    · exact received
    · split
      · refine (received.trans (RepeaterRecord.lockAndTrack_kept _ d t m.ap m.delta)).trans ⟨rfl, rfl, rfl, rfl, fun h => ?_⟩
        exact { h with history := pushHistory_known h.history _ }
      · exact received
      · exact received

end Sys2Proof.Machine
end

section
/-! LOAD REPEATERS: records that pass R44, stored behind a sound list or in its place, make a sound list (R43 to R46). -/

namespace Sys2Proof.Machine

/-- A load record that passes R44: its index, its place behind the lag before it, its window within L, its values. -/
structure LoadFits (length expected : Nat) (before : Option Nat) (l : LoadRecord) : Prop where
  index : l.index.toNat = expected ∧ expected ≤ 160
  after : ∀ b ∈ before, b < l.nominalLag.toNat
  upper : l.nominalLag.toNat + l.driftLimit.toNat + l.halfWidth.toNat ≤ length - 1
  sound : RecordInv (.ofLoad l)

theorem loadFits_of_find {length expected : Nat} {before : Option Nat} {l : LoadRecord}
    (h : ((List.range 10).map (· + 1)).find? (loadFieldFails length expected before l) = none) :
    LoadFits length expected before l := by
  have pass (n : Nat) (h1 : 1 ≤ n) (h2 : n ≤ 10) : loadFieldFails length expected before l n = false := by
    have := List.find?_eq_none.mp h n (List.mem_map.mpr ⟨n - 1, List.mem_range.mpr (by omega), by omega⟩)
    simpa using this
  have f1 := pass 1 (by omega) (by omega)
  have f2 := pass 2 (by omega) (by omega)
  have f3 := pass 3 (by omega) (by omega)
  have f4 := pass 4 (by omega) (by omega)
  have f5 := pass 5 (by omega) (by omega)
  have f6 := pass 6 (by omega) (by omega)
  have f7 := pass 7 (by omega) (by omega)
  have f8 := pass 8 (by omega) (by omega)
  have f9 := pass 9 (by omega) (by omega)
  simp only [loadFieldFails, Bool.or_eq_false_iff, decide_eq_false_iff_not, Bool.not_eq_false', inRange_iff, not_lt,
    ne_eq, not_not] at f1 f2 f4 f5 f6 f7 f8
  refine ⟨⟨f1.1, f1.1 ▸ f1.2⟩, ?_, f5.2, ⟨f2, ⟨f4, f5.1⟩, f6, ⟨f7.1, f7.2, f8.1, f8.2⟩, ?_, ?_, rfl,
    ⟨Nat.zero_le _, List.not_mem_nil⟩, ⟨rfl, rfl, rfl, rfl⟩⟩⟩
  · rintro b rfl
    simpa [loadFieldFails] using f3
  · show pendingWithin 1 32767 (if l.presence.toNat = 0 then none else some l.presence.toNat) = true
    by_cases hz : l.presence.toNat = 0
    · simp [hz, pendingWithin]
    · simpa [loadFieldFails, hz, pendingWithin] using f9
  · exact ⟨Nat.le_add_right _ _, Nat.le_add_right _ _⟩

/-- Records that pass one after the other carry consecutive indices and rising lags, and each passes (R43, R44). -/
theorem firstBadRecord_none {length : Nat} {ls : List LoadRecord} {expected : Nat} {before : Option Nat}
    (h : firstBadRecord length expected before ls = none) :
    ls.map (·.index.toNat) = List.range' expected ls.length
      ∧ (before.toList ++ ls.map (·.nominalLag.toNat)).Pairwise (· < ·)
      ∧ ∀ l ∈ ls, LoadFits length l.index.toNat none l := by
  induction ls generalizing expected before with
  | nil => cases before <;> simp
  | cons l ls ih =>
    rw [firstBadRecord] at h
    split at h
    · cases h
    next hl =>
      have fits := loadFits_of_find hl
      obtain ⟨indices, lags, rest⟩ := ih h
      refine ⟨?_, ?_, ?_⟩
      · simp [List.range'_succ, fits.index.1, indices]
      · simp only [Option.toList_some, List.singleton_append] at lags
        cases before with
        | none => simpa using lags
        | some b =>
          have hb : b < l.nominalLag.toNat := fits.after b rfl
          simp only [Option.toList_some, List.singleton_append, List.map_cons, List.pairwise_cons] at lags ⊢
          exact ⟨List.forall_mem_cons.mpr ⟨hb, fun x hx => hb.trans (lags.1 x hx)⟩, lags⟩
      · have own : LoadFits length l.index.toNat none l :=
          ⟨⟨rfl, fits.index.1 ▸ fits.index.2⟩, fun _ hb => absurd hb (by simp), fits.upper, fits.sound⟩
        exact List.forall_mem_cons.mpr ⟨own, rest⟩

/-- Lags that rise, with lags behind them that rise from the last one on, rise throughout. -/
theorem pairwise_append_loaded {old : List RepeaterRecord} {new : List Nat}
    (hold : (old.map (·.nominalLag)).Pairwise (· < ·)) (hnew : ((lastLag old).toList ++ new).Pairwise (· < ·)) :
    (old.map (·.nominalLag) ++ new).Pairwise (· < ·) := by
  rcases List.eq_nil_or_concat old with rfl | ⟨init, x, rfl⟩
  · simpa [lastLag] using hnew
  · simp only [lastLag, List.concat_eq_append, List.getLast?_append, List.getLast?_singleton, Option.some_or,
      Option.map_some, Option.toList_some, List.singleton_append, List.pairwise_cons] at hnew
    refine List.pairwise_append.mpr ⟨hold, hnew.2, fun a ha b hb => ?_⟩
    rw [List.concat_eq_append, List.map_append] at hold ha
    rcases List.mem_append.mp ha with ha | ha
    · exact ((List.pairwise_append.mp hold).2.2 a ha x.nominalLag (by simp)).trans (hnew.1 b hb)
    · obtain rfl : a = x.nominalLag := by simpa using ha
      exact hnew.1 b hb

/-- Records that have passed, stored behind a list or in its place, make a sound list (R45, R46). -/
theorem ListInv.storeLoaded {q q' : PairState} (h : ListInv q) {old : List RepeaterRecord} {ls : List LoadRecord}
    (hold : old = [] ∨ old = q.records)
    (hls : firstBadRecord q.config.length (old.length + 1) (lastLag old) ls = none)
    (hr : q'.records = old ++ ls.map .ofLoad) (hc : q'.config = q.config) : ListInv q' := by
  obtain ⟨indices, lags, fits⟩ := firstBadRecord_none hls
  obtain ⟨hps, hw⟩ := firstFailing_eq_none_iff.mp h.config
  have oldIndices : old.map (·.index) = List.range' 1 old.length := by
    rcases hold with rfl | rfl
    · rfl
    · rw [h.indices, List.range'_eq_map_range]
      simp [Nat.add_comm]
  have oldLags : (old.map (·.nominalLag)).Pairwise (· < ·) := by
    rcases hold with rfl | rfl
    · exact .nil
    · exact h.lags
  have oldSound : ∀ r ∈ old, RecordInv r := by
    rcases hold with rfl | rfl
    · simp
    · exact h.records
  have oldFits : windowsFit old q.config.length = true := by
    rcases hold with rfl | rfl
    · rfl
    · exact hw
  have oldRoom : old.length ≤ 160 := by
    rcases hold with rfl | rfl
    · exact Nat.zero_le _
    · exact h.room
  have newIndices : q'.records.map (·.index) = List.range' 1 q'.records.length := by
    have e : (ls.map RepeaterRecord.ofLoad).map (·.index) = List.range' (1 + old.length) ls.length := by
      rw [List.map_map, Nat.add_comm 1]
      exact indices
    rw [hr, List.map_append, oldIndices, e, List.range'_append_1]
    simp
  refine ⟨?_, ?_, ?_, ?_, ?_⟩
  · rw [hr, List.length_append, List.length_map]
    by_cases hn : ls = []
    · simpa [hn] using oldRoom
    · have hpos := List.length_pos_of_ne_nil hn
      have last : old.length + ls.length ∈ ls.map (·.index.toNat) := by
        rw [indices, List.mem_range'_1]
        omega
      obtain ⟨l, hl, e⟩ := List.mem_map.mp last
      exact e ▸ (fits l hl).index.2
  · rw [newIndices, List.range'_eq_map_range]
    simp [Nat.add_comm]
  · rw [hr, List.map_append, List.map_map]
    exact pairwise_append_loaded oldLags lags
  · rw [hr]
    intro r hm
    rcases List.mem_append.mp hm with hm | hm
    · exact oldSound r hm
    · obtain ⟨l, hl, rfl⟩ := List.mem_map.mp hm
      exact (fits l hl).sound
  · rw [hc]
    refine firstFailing_eq_none_iff.mpr ⟨hps, ?_⟩
    rw [hr, windowsFit, List.all_append, Bool.and_eq_true_iff]
    refine ⟨oldFits, List.all_eq_true.mpr fun r hm => ?_⟩
    obtain ⟨l, hl, rfl⟩ := List.mem_map.mp hm
    exact decide_eq_true (fits l hl).upper

end Sys2Proof.Machine
end

section
/-! Completions, roles, exchanges, modes, samples and passes keep every pair's list sound. -/

namespace Sys2Proof.Machine

/-! ### Learning and completions (R53, R74, R107 to R110) -/

theorem State.abandonLearning_kept (s : State) (p : Pair) (cause : LearnCause) :
    StageKept s (s.abandonLearning p cause) := by
  unfold State.abandonLearning
  split
  · exact .refl s
  · exact (StageKept.modPair rfl fun h => h.mapRecords (fun r _ => r.clearLearn_kept) rfl rfl).trans
      (State.setPairFlag_kept ..).stage

theorem State.finishLearning_kept (s : State) (p : Pair) (n : Nat) (number : BitVec 48) (stamp : LineTime) :
    StageKept s (s.finishLearning p n number stamp) :=
  (StageKept.modPair rfl fun h => h.mapRecords (fun r _ => r.finishLearn_kept n) rfl rfl).trans
    (State.setPairFlag_kept ..).stage

theorem State.learningStage_kept (s : State) (p : Pair) (ms : List WindowMeasurement) (number : BitVec 48)
    (stamp : LineTime) : StageKept s (s.learningStage p ms number stamp) := by
  unfold State.learningStage
  split
  · exact .refl s
  · split
    · have suspended (l : LearnState) : StageKept s (s.modPair p fun q => { q with learn := l }) :=
        .modPair rfl fun h => h.congr rfl rfl
      dsimp only
      split
      · exact (suspended _).trans (State.abandonLearning_kept ..)
      · exact suspended _
    · have counted (l : LearnState) : StageKept s (s.modPair p fun q =>
          { q with records := q.records.map (·.learn q.config.presence ms), learn := l }) :=
        .modPair rfl fun h => h.mapRecords (fun r _ => r.learn_kept _ ms) rfl rfl
      unfold State.countSweep
      dsimp only
      split
      · exact (counted _).trans (State.finishLearning_kept ..)
      · exact counted _

theorem State.tableStage_kept (s : State) (p : Pair) (c : PairConfig) (ms : List WindowMeasurement) :
    StageKept s (s.tableStage p (judgeAll c ms (s.pair p).records)) := by
  have judged : StageKept s (s.modPair p fun q =>
      { q with records := (judgeAll c ms (s.pair p).records).map (·.record) }) :=
    .modPair rfl fun h => h.mapRecords
      (f := fun r => (r.applyEdits.judge c.presence c.track (measurementOf ms r.index)).record)
      (fun r _ => r.applyEdits_kept.trans (RepeaterRecord.judge_kept ..)) (by simp [judgeAll]) rfl
  exact judged.trans ((State.setPairFlagIf_kept ..).trans (State.setPairFlagIf_kept ..)).stage

/-- The five stages of a completion (R74). -/
theorem State.stages_kept (s : State) (p : Pair) (w : Sweep) (stamp : LineTime) : StageKept s (s.stages p w stamp) := by
  have published (s : State) (b : PublishedSweep) : StageKept s (s.publish p b) :=
    (StageKept.modPair rfl fun h => h.congr rfl rfl).trans (State.setPairFlag_kept ..).stage
  have released (s : State) : StageKept s (s.releaseHold p) := .modPair rfl fun h => h.congr rfl rfl
  exact ((((s.tableStage_kept p _ _).trans (State.learningStage_kept ..)).trans
    (State.judgeStages_kept ..).stage).trans (published _ _)).trans (released _)

/-! ### Roles (R152 to R164) -/

theorem State.setRole_kept (s : State) (p : Pair) (r : Role) (c : RoleCause) : TableKept s (s.setRole p r c) :=
  (TableKept.modPair fun h => h.congr rfl rfl).trans (State.setPairFlag_kept ..).table

theorem State.silence_kept (s : State) (p : Pair) : TableKept s (s.modPair p PairState.silence) :=
  .modPair fun h => h.congr rfl rfl

theorem State.endClaim_kept (s : State) (p : Pair) (c : RoleCause) : TableKept s (s.endClaim p c) :=
  (s.setRole_kept ..).trans (State.silence_kept ..)

theorem State.setGuard_kept (s : State) (p : Pair) (m : YieldMode) (pass exchange : Bool) :
    TableKept s (s.setGuard p m pass exchange) := by
  rcases s.setGuard_cases p m pass exchange with ⟨_, h⟩ | ⟨_, _, h⟩ <;> rw [h]
  · exact .modPair fun h => h.congr rfl rfl
  · exact ((s.setRole_kept ..).trans (State.silence_kept ..)).trans (State.loseRole_kept ..).table

theorem State.reportLeftBank_kept (s : State) (p : Pair) : TableKept s (s.reportLeftBank p) := by
  unfold State.reportLeftBank
  split
  · exact s.setGuard_kept ..
  · exact .refl s

theorem State.reportExchangeEnd_kept (s : State) (p : Pair) : TableKept s (s.reportExchangeEnd p) := by
  unfold State.reportExchangeEnd
  split
  · exact s.setGuard_kept ..
  · exact .refl s

theorem State.leaveBank_kept (s : State) (p : Pair) : TableKept s (s.leaveBank p) :=
  (TableKept.modPair fun h => h.congr rfl rfl).trans (State.reportLeftBank_kept ..)

theorem State.takeCompletion_kept (s : State) (p : Pair) : TableKept s (s.takeCompletion p) := by
  rcases s.takeCompletion_cases p with ⟨_, h⟩ | ⟨_, _, _, _, h⟩ <;> rw [h]
  · exact .refl s
  · exact ((s.stages_kept ..).table.trans (State.leaveBank_kept ..)).trans (State.transmit_kept _).table

theorem State.completeSweep_kept (s : State) (p : Pair) : TableKept s (s.completeSweep p) := by
  have finished : TableKept s (s.finishSweep p) := by
    unfold State.finishSweep
    split
    · split
      · exact (s.stages_kept ..).table.trans (State.leaveBank_kept ..)
      · exact .refl s
    · exact .refl s
  unfold State.completeSweep
  split
  · exact finished.trans (State.replan_kept ..).table
  · exact .refl s

theorem State.enterYielding_kept (s : State) (p : Pair) (m : YieldMode) (c : RoleCause) :
    TableKept s (s.enterYielding p m c) :=
  ((((s.setRole_kept ..).trans (State.yieldSweep_kept ..).table).trans (State.abandonLearning_kept ..).table).trans
    (State.setGuard_kept ..)).trans (State.arbitrate_kept _).table

theorem State.enterClaiming_kept (s : State) (p : Pair) : TableKept s (s.enterClaiming p) :=
  (s.setRole_kept ..).trans (.modPair fun h => h.congr rfl rfl)

theorem State.farClaim_kept (s : State) (p : Pair) : TableKept s (s.farClaim p) := by
  unfold State.farClaim
  split
  · split
    · exact s.endClaim_kept ..
    · exact .modPair fun h => h.congr rfl rfl
  · split
    · exact (s.orderKeep_kept p).table
    · exact s.enterYielding_kept ..
  · exact .refl s

theorem State.farKeep_kept (s : State) (p : Pair) : TableKept s (s.farKeep p) := by
  unfold State.farKeep
  split
  · exact s.endClaim_kept ..
  · exact .refl s

theorem State.claimBurstEnd_kept (s : State) (p : Pair) : TableKept s (s.claimBurstEnd p) := by
  unfold State.claimBurstEnd
  split
  · exact (s.releaseTone_kept p).table.trans (.modPair fun h => h.congr rfl rfl)
  · exact .refl s

theorem State.keepBurstEnd_kept (s : State) (p : Pair) : TableKept s (s.keepBurstEnd p) := by
  unfold State.keepBurstEnd
  split
  · exact (s.releaseTone_kept p).table
  · exact .refl s

theorem State.claimWon_kept (s : State) (p : Pair) : TableKept s (s.claimWon p) := by
  unfold State.claimWon
  split
  · exact ((s.setRole_kept ..).trans (State.considerSweep_kept ..).table).trans (State.startNext_kept _).table
  · exact .refl s

theorem State.claimTimeout_kept (s : State) (p : Pair) : TableKept s (s.claimTimeout p) := by
  unfold State.claimTimeout
  split
  · exact s.endClaim_kept ..
  · exact .refl s

theorem State.collide_kept (s : State) (p : Pair) : TableKept s (s.collide p) := by
  unfold State.collide
  split
  · split
    · exact ((s.takeCompletion_kept p).trans (State.setPairFlag_kept ..).table).trans (State.enterYielding_kept ..)
    · exact ((s.setPairFlag_kept ..).line.trans (State.orderKeep_kept ..)).table.trans
        (.modPair fun h => h.congr rfl rfl)
  · exact .refl s

/-! ### Exchanges (R119 to R130) -/

theorem State.unmuteRecord_kept (s : State) (p : Pair) (i : Nat) : TableKept s (s.unmuteRecord p i) :=
  (TableKept.modPair fun h => h.modRecord (fun r => r.unmute_kept) rfl rfl).trans (State.considerSweep_kept ..).table

theorem State.tableEffect_kept (s : State) (e : QueueEntry) : TableKept s (s.tableEffect e) := by
  unfold State.tableEffect
  split
  · exact .modPair fun h => h.modRecord (fun r => r.mute_kept) rfl rfl
  · exact s.unmuteRecord_kept ..
  · exact s.unmuteRecord_kept ..
  · exact .refl s

theorem State.endExchange_kept (s : State) (e : QueueEntry) (x : ExchangeResult) (reply : List Byte) :
    TableKept s (s.endExchange e x reply) := by
  have settled : TableKept s ((s.settle e x reply).reportExchangeEnd e.pair) :=
    (s.settle_kept ..).table.trans (State.reportExchangeEnd_kept ..)
  unfold State.endExchange
  dsimp only
  split
  · exact (settled.trans (State.tableEffect_kept ..)).trans (State.startNext_kept _).table
  · exact settled.trans (State.startNext_kept _).table

theorem State.endAttempt_kept (s : State) (e : QueueEntry) (x : ExchangeResult) (reply : List Byte) :
    TableKept s (s.endAttempt e x reply) := by
  unfold State.endAttempt
  split
  · exact ((s.modFlight_kept _).line.trans (State.askTone_kept ..)).table
  · exact s.endExchange_kept ..

theorem State.midpoint_kept (s : State) (readback : Tone) : TableKept s (s.midpoint readback) := by
  unfold State.midpoint
  split
  · split
    · exact (TableKept.modPair fun h => h.congr rfl rfl).trans (State.modFlight_kept ..).table
    · exact .refl s
  · exact .refl s

theorem State.frameEnd_kept (s : State) : TableKept s s.frameEnd := by
  unfold State.frameEnd
  split
  · split
    · dsimp only
      split
      · exact (s.releaseTone_kept _).table.trans (State.endExchange_kept ..)
      · exact (s.releaseTone_kept _).table.trans (State.modFlight_kept ..).table
    · exact .refl s
  · exact .refl s

theorem State.driveStop_kept (s : State) : TableKept s s.driveStop := by
  unfold State.driveStop
  split
  · split
    · split
      · exact ((s.releaseTone_kept _).table.trans (State.setPairFlag_kept ..).table).trans (State.endExchange_kept ..)
      · exact .refl s
    · exact .refl s
  · exact .refl s

theorem State.receptionStart_kept (s : State) : TableKept s s.receptionStart := by
  unfold State.receptionStart
  split
  · split
    · split
      · exact (s.modFlight_kept _).table.trans (State.withBank_kept ..).table
      · exact .refl s
    · exact .refl s
  · exact .refl s

theorem State.judgeBits_kept (s : State) (e : QueueEntry) (c : Captured) (times : ReplyTimes) (bits : List Bool) :
    TableKept s (s.judgeBits e c times bits) := by
  unfold State.judgeBits
  split
  · exact s.endAttempt_kept ..
  · split
    · exact s.endAttempt_kept ..
    · exact (s.modFlight_kept _).table

theorem State.replyBit_kept (s : State) : TableKept s s.replyBit := by
  unfold State.replyBit
  split
  · split
    · split
      · exact s.judgeBits_kept ..
      · exact .refl s
    · exact .refl s
  · exact .refl s

theorem State.cutExchange_kept (s : State) (p : Pair) : TableKept s (s.cutExchange p) := by
  unfold State.cutExchange
  split
  · split
    · exact (TableKept.modPair fun h => h.congr rfl rfl).trans (State.endExchange_kept ..)
    · exact .refl s
  · exact .refl s

/-! ### Modes, samples and detectors (R15 to R26) -/

theorem State.leaveMode_kept (s : State) (p : Pair) : TableKept s (s.leaveMode p) :=
  (((s.abandonSweep_kept p).table.trans (State.abandonLearning_kept ..).table).trans
    (State.loseRole_kept ..).table).trans
    ((TableKept.modPair fun h => h.congr rfl rfl).trans (State.arbitrate_kept _).table)

theorem State.park_kept (s : State) (p : Pair) : TableKept s (s.park p) := by
  have stopped (s : State) : TableKept s (s.modPair p fun q => { q with clock := .origin, det := .reset }) :=
    .modPair fun h => h.congr rfl rfl
  exact (((s.setRole_kept ..).trans (State.silence_kept ..)).trans (State.leaveMode_kept ..)).trans (stopped _)

theorem State.enterSynthetic_kept (s : State) (p : Pair) : TableKept s (s.enterSynthetic p) := by
  refine ((s.setRole_kept ..).trans (.modPair fun h => ?_)).trans (State.considerSweep_kept ..).table
  split
  · exact h.congr rfl rfl
  · exact h

theorem TableKept.setPairBank {s : State} {p : Pair} {q : PairState} {b : Bank} (h : ListInv (s.pair p) → ListInv q) :
    TableKept s { s.setPair p q with bank := b } := (TableKept.setPair h).trans (State.withBank_kept _ b).table

theorem PairState.endChip_listInv {q : PairState} (h : ListInv q) : ListInv q.endChip := by
  unfold PairState.endChip
  split <;> exact h.congr rfl rfl

theorem State.returnSample_kept (s : State) (p : Pair) (strobe : Option (BitVec 12)) :
    TableKept s (s.returnSample p strobe) := by
  have sampled (s' : State) (b : Bank) (h : s'.pair p = s.pair p) : TableKept s'
      { s'.setPair p { s.pair p with
          det := (s.pair p).det.take (s.pair p).config.returnFloor ((s.pair p).sample strobe) }.endChip with bank := b } :=
    .setPairBank fun hs => PairState.endChip_listInv (ListInv.congr (q := s.pair p) (h ▸ hs) rfl rfl)
  unfold State.returnSample
  dsimp only
  split
  · exact .refl s
  · split
    · exact (s.modFlight_kept _).table.trans (sampled _ _ rfl)
    · exact sampled s _ rfl

theorem State.declareLoss_kept (s : State) (p : Pair) : TableKept s (s.declareLoss p) := by
  have declared (s : State) : TableKept s (((s.takeCompletion p).modPair p fun q =>
      { q with det := { q.det with lossDeclared := true, lossRun := 0 } }).setPairFlag p .returnLoss) :=
    ((s.takeCompletion_kept p).trans (.modPair fun h => h.congr rfl rfl)).trans (State.setPairFlag_kept ..).table
  unfold State.declareLoss
  split
  · dsimp only
    refine TableKept.trans ?_ ((State.cutExchange_kept _ p).trans (State.arbitrate_kept _).table)
    split
    · exact (declared s).trans (State.abandonSweep_kept ..).table
    · exact ((declared s).trans (State.abandonSweep_kept ..).table).trans (State.reportLeftBank_kept ..)
  · exact .refl s

theorem State.lossCleared_kept (s : State) (p : Pair) : LineKept s (s.lossCleared p) :=
  ((s.setPairFlag_kept ..).line.trans (State.considerSweep_kept ..)).trans (State.startNext_kept _)

theorem State.periodBoundary_kept (s : State) (p : Pair) : TableKept s (s.periodBoundary p) := by
  have crossed : TableKept s { s.setPair p (s.pair p).crossBoundary with bank := s.bank.countPeriod p } :=
    .setPairBank fun h => h.congr rfl rfl
  unfold State.periodBoundary
  dsimp only
  split
  · split
    · exact crossed.trans (State.lossCleared_kept ..).table
    · exact crossed
  · exact .refl s

theorem State.activityBlock_kept (s : State) (p : Pair) : TableKept s (s.activityBlock p) := by
  unfold State.activityBlock
  dsimp only
  split
  · exact .setPair fun h => h.congr rfl rfl
  · exact .refl s

theorem State.farMillisecond_kept (s : State) (p : Pair) (f3 f4 : Nat) : TableKept s (s.farMillisecond p f3 f4) := by
  have taken (b : Bool) (s : State) : TableKept s (if b = true then s.takeCompletion p else s) := by
    split
    · exact s.takeCompletion_kept p
    · exact .refl s
  have claimed (b : Bool) (s : State) : TableKept s (if b = true then s.farClaim p else s) := by
    split
    · exact s.farClaim_kept p
    · exact .refl s
  have kept (b : Bool) (s : State) : TableKept s (if b = true then s.farKeep p else s) := by
    split
    · exact s.farKeep_kept p
    · exact .refl s
  unfold State.farMillisecond
  dsimp only
  split
  · exact .refl s
  · exact (((taken _ s).trans (.modPair fun h => h.congr rfl rfl)).trans (claimed _ _)).trans (kept _ _)

/-! ### Passes (R33, R37, R70) -/

theorem State.passBegin_kept (s : State) (p : Pair) : TableKept s (s.passBegin p) := by
  unfold State.passBegin
  split
  · exact (s.withBank_kept _).table
  · exact .refl s

theorem State.takeDelivery_kept (s : State) (p : Pair) (ms : List WindowMeasurement) :
    TableKept s (s.takeDelivery p ms) := by
  have delivered (w : Sweep) : TableKept s (s.modPair p fun q => { q with sweep := some (w.deliver ms s.now) }) :=
    .modPair fun h => h.congr rfl rfl
  unfold State.takeDelivery
  split
  · dsimp only
    split
    · exact ((delivered _).trans (State.abandonSweep_kept ..).table).trans (State.reportLeftBank_kept ..)
    · exact delivered _
  · exact .refl s

theorem State.passEnd_kept (s : State) (p : Pair) : TableKept s (s.passEnd p) := by
  unfold State.passEnd
  split
  · split
    · exact ((s.withBank_kept _).table.trans (State.takeDelivery_kept ..)).trans (State.arbitrate_kept _).table
    · exact .refl s
  · exact .refl s

end Sys2Proof.Machine
end

section
/-! Requests, the Message Port and the clock keep every pair's list sound, and so does every step. -/

namespace Sys2Proof.Machine

/-! ### The owners of requests -/

/-- A request that names a pair acts on it or changes nothing. -/
theorem withPair_keeps {f : Pair → State → State × Answer} (hf : ∀ p s, KeepsLists s (f p s).1) (b : Byte) (s : State) :
    KeepsLists s (withPair b f s).1 := by
  unfold withPair
  split
  · exact hf _ s
  · exact .refl s

theorem ownConfigurePair_keeps (b : Byte) (ps : List Word) (s : State) : KeepsLists s (ownConfigurePair b ps s).1 := by
  refine withPair_keeps (fun p s => ?_) b s
  dsimp only
  split
  · exact .refl s
  · split
    · exact .refl s
    next hps =>
      refine .setPair fun h => ?_
      have hc : firstFailing (PairConfig.ofParams (ps.map (·.toNat))).toParams (s.pair p).records = none :=
        PairConfig.ofParams_passes hps
      obtain ⟨room, indices, lags, records, -⟩ := h
      unfold PairState.configure
      split <;> exact ⟨room, indices, lags, records, hc⟩

theorem setDisabled_keeps (p : Pair) (s : State) : KeepsLists s (setDisabled p s).1 := by
  unfold setDisabled
  split
  · exact .refl s
  · split <;> exact .refl s
  · split
    · exact .refl s
    · unfold parkOrRefuse
      dsimp only
      split
      · exact ((s.takeCompletion_kept p).trans (State.replan_kept ..).table).lists
      · exact ((s.takeCompletion_kept p).trans (State.park_kept ..)).lists

theorem setEnabled_keeps (p : Pair) (s : State) : KeepsLists s (setEnabled p s).1 := by
  unfold setEnabled
  split
  · have restarted (s : State) : TableKept s (s.modPair p fun q => { q with clock := .origin, det := .reset }) :=
      .modPair fun h => h.congr rfl rfl
    exact ((s.setRole_kept ..).trans (restarted _)).lists
  · exact (((s.takeCompletion_kept p).trans (State.setRole_kept ..)).trans (State.leaveMode_kept ..)).lists
  · exact .refl s

theorem setSynthetic_keeps (p : Pair) (s : State) : KeepsLists s (setSynthetic p s).1 := by
  unfold setSynthetic
  split
  · have restarted : TableKept s (s.modPair p fun q => { q with clock := .origin, det := .reset }) :=
      .modPair fun h => h.congr rfl rfl
    exact (restarted.trans (State.enterSynthetic_kept ..)).lists
  · exact (s.enterSynthetic_kept p).lists
  · exact .refl s

theorem ownSetPairMode_keeps (b m : Byte) (s : State) : KeepsLists s (ownSetPairMode b m s).1 := by
  refine withPair_keeps (fun p s => ?_) b s
  split
  · exact setDisabled_keeps p s
  · exact setEnabled_keeps p s
  · exact setSynthetic_keeps p s
  · exact .refl s

theorem ownInjectFault_keeps (b first : Byte) (f : Half) (s : State) : KeepsLists s (ownInjectFault b first f s).1 := by
  refine withPair_keeps (fun p s => ?_) b s
  dsimp only
  split
  · exact .refl s
  · split
    · exact .refl s
    · split
      · exact .refl s
      · exact .setPair fun h => h.congr rfl rfl

theorem ownTakeRole_keeps (b : Byte) (s : State) : KeepsLists s (ownTakeRole b s).1 := by
  refine withPair_keeps (fun p s => ?_) b s
  split
  case h_1 => exact (s.enterClaiming_kept p).lists
  all_goals exact .refl s

theorem ownReleaseRole_keeps (b m : Byte) (s : State) : KeepsLists s (ownReleaseRole b m s).1 := by
  refine withPair_keeps (fun p s => ?_) b s
  split
  · exact .refl s
  · split
    case h_1 => exact ((s.takeCompletion_kept p).trans (State.enterYielding_kept ..)).lists
    case h_2 => exact (s.endClaim_kept ..).lists
    all_goals exact .refl s

/-- A taken load stores records that have passed R44 (R45, R46). -/
theorem State.storeRecords_keeps {s : State} {p : Pair} {first : Nat} {ls : List LoadRecord}
    (hfirst : first = 1 ∨ first = (s.pair p).records.length + 1)
    (h : firstBadRecord (s.pair p).config.length first (if first = 1 then none else lastLag (s.pair p).records) ls
      = none) : KeepsLists s (s.storeRecords p (first = 1) ls) := by
  unfold State.storeRecords
  by_cases h1 : first = 1
  · simp only [h1, decide_true, if_true] at h ⊢
    refine (s.removeFaults_kept p).table.lists.trans (KeepsLists.setPair fun hq => ?_)
    rw [(s.removeFaults_kept p).pair p] at hq ⊢
    exact hq.storeLoaded (old := []) (.inl rfl) h rfl rfl
  · simp only [h1, decide_false, if_false, Bool.false_eq_true] at h ⊢
    refine .setPair fun hq => hq.storeLoaded (.inr rfl) ?_ rfl rfl
    rwa [← hfirst.resolve_left h1]

theorem ownLoadRepeaters_keeps (b first : Byte) (ls : List LoadRecord) (s : State) :
    KeepsLists s (ownLoadRepeaters b first ls s).1 := by
  refine withPair_keeps (fun p s => ?_) b s
  dsimp only
  split
  · exact .refl s
  · split
    · exact .refl s
    next hfirst =>
      split
      · exact .refl s
      · split
        · exact .refl s
        next h => exact State.storeRecords_keeps (by omega) h

theorem ownEditRepeater_keeps (b i c : Byte) (low high presence baseline : Half) (x : Byte) (s : State) :
    KeepsLists s (ownEditRepeater b i c low high presence baseline x s).1 := by
  unfold ownEditRepeater
  split
  · exact .refl s
  · split
    · exact .refl s
    · refine withPair_keeps (fun p s => ?_) b s
      dsimp only
      split
      · exact .refl s
      · split
        · exact .refl s
        next hpass =>
          have edited : TableKept s (s.modPair p fun q => { q with
              records := modRecord q.records i.toNat (·.edit (editChanges c low high presence baseline x)) }) :=
            .modPair fun h => h.modRecord (fun r => r.edit_kept hpass) rfl rfl
          have considered (b : Prop) [Decidable b] (t : State) : TableKept t (if b then t.considerSweep p else t) := by
            split
            · exact (t.considerSweep_kept p).table
            · exact .refl t
          split <;> exact (edited.trans (considered _ _)).lists

theorem ownReadResults_keeps (b r start c : Byte) (s : State) : KeepsLists s (ownReadResults b r start c s).1 := by
  unfold ownReadResults
  split
  · exact .refl s
  · refine withPair_keeps (fun p s => ?_) b s
    have served (q : PairState) (hq : ListInv (s.pair p) → ListInv q) :
        KeepsLists s (s.setPair p (servePage b start.toNat c.toNat q).1) := .setPair fun h => (hq h).congr rfl rfl
    dsimp only
    split
    · split
      · exact .refl s
      · exact served _ fun h => h.congr rfl rfl
    · split
      · exact .refl s
      · exact served _ id

theorem ownReadTrace_keeps (b i : Byte) (s : State) : KeepsLists s (ownReadTrace b i s).1 := by
  refine withPair_keeps (fun p s => ?_) b s
  have refreshed : KeepsLists s (if (s.pair p).readout.isNone then s.setPair p (s.pair p).refresh else s) := by
    split
    · exact .setPair fun h => h.congr rfl rfl
    · exact .refl s
  dsimp only
  split
  · exact refreshed
  · split <;> exact refreshed

theorem ownLearnBaseline_keeps (b n m : Byte) (s : State) : KeepsLists s (ownLearnBaseline b n m s).1 := by
  refine withPair_keeps (fun p s => ?_) b s
  dsimp only
  split
  · exact .refl s
  · split
    · exact .refl s
    · split
      · exact .refl s
      · split
        · exact .refl s
        · exact .setPair fun h => h.mapRecords (fun r _ => r.clearLearn_kept) rfl rfl

theorem ownAbortLearn_keeps (b : Byte) (s : State) : KeepsLists s (ownAbortLearn b s).1 := by
  refine withPair_keeps (fun p s => ?_) b s
  split
  · exact .refl s
  · exact (s.abandonLearning_kept ..).table.lists

theorem ownPurgeFault_keeps (o : Byte) (i : Half) (sel : Byte) (s : State) : KeepsLists s (ownPurgeFault o i sel s).1 := by
  refine .of_pairs ?_
  unfold ownPurgeFault
  split
  · unfold purgeOne
    split
    · rfl
    · split
      · rfl
      · split <;> rfl
  · unfold purgeCleared
    split <;> rfl
  · rfl

theorem State.hostSequence_keeps (s : State) (id : Half) (r : FaultRecord) (a : Action) (w : Option Half) :
    KeepsLists s (s.hostSequence id r a w).1 :=
  ((s.startSequence_kept ..).line.trans (State.startNext_kept _)).table.lists

theorem ownIsolate_keeps (i : Half) (a : Byte) (s : State) : KeepsLists s (ownIsolate i a s).1 := by
  unfold ownIsolate
  split
  · exact .refl s
  · split
    · exact .refl s
    · split
      · exact .refl s
      · split
        · exact .refl s
        · split
          · exact .refl s
          · split
            · exact s.hostSequence_keeps _ _ _ _
            · exact .refl s

theorem ownReleaseIsolation_keeps (i : Half) (s : State) : KeepsLists s (ownReleaseIsolation i s).1 := by
  unfold ownReleaseIsolation
  split
  · exact .refl s
  · split
    · exact .refl s
    · split
      · exact .refl s
      · split
        · exact .refl s
        · exact s.hostSequence_keeps _ _ _ _

theorem ownSupervise_keeps (tag b i c a : Byte) (s : State) : KeepsLists s (ownSupervise tag b i c a s).1 := by
  refine withPair_keeps (fun p s => ?_) b s
  dsimp only
  split
  · exact .refl s
  · split
    · exact .refl s
    · split
      · exact .refl s
      · split
        · exact .refl s
        · split
          · exact ((s.enqueue_kept ..).line.trans (State.startNext_kept _)).table.lists
          · exact .refl s

/-- Every request keeps the lists: most answer and touch no pair. -/
theorem requestOwner_keeps (tag : Byte) (r : Request) (s : State) : KeepsLists s (requestOwner tag r s).1 := by
  cases r with
  | identify | reset | readTime | readEvents | readQueue => exact .refl s
  | setTime seconds fraction => refine .of_pairs ?_; simp only [requestOwner, ownSetTime]; split <;> rfl
  | adjustTime o => refine .of_pairs ?_; simp only [requestOwner, ownAdjustTime]; split <;> rfl
  | clearEvents sel => refine .of_pairs ?_; simp only [requestOwner, ownClearEvents]; split <;> rfl
  | setNoticeMask m => refine .of_pairs ?_; simp only [requestOwner, ownSetNoticeMask]; split <;> rfl
  | configurePair p ps => exact ownConfigurePair_keeps p ps s
  | setPairMode p m => exact ownSetPairMode_keeps p m s
  | injectFault p f q => exact ownInjectFault_keeps p f q s
  | takeRole p => exact ownTakeRole_keeps p s
  | releaseRole p m => exact ownReleaseRole_keeps p m s
  | loadRepeaters p f rs => exact ownLoadRepeaters_keeps p f rs s
  | editRepeater p i c lo hi pr b x => exact ownEditRepeater_keeps p i c lo hi pr b x s
  | readPairConfig p | readRole p | readLearning p => exact withPair_keeps (fun _ s => .refl s) p s
  | readRepeater p i =>
    refine withPair_keeps (fun _ s => ?_) p s
    dsimp only
    split <;> exact .refl s
  | readResults p r f c => exact ownReadResults_keeps p r f c s
  | readTrace p i => exact ownReadTrace_keeps p i s
  | learnBaseline p n m => exact ownLearnBaseline_keeps p n m s
  | abortLearn p => exact ownAbortLearn_keeps p s
  | listFaults sel i =>
    refine .of_pairs ?_
    simp only [requestOwner, ownListFaults]
    split
    · rfl
    · split <;> rfl
  | readFault i =>
    refine .of_pairs ?_
    simp only [requestOwner, ownReadFault]
    split
    · rfl
    · split <;> rfl
  | purgeFault o i sel => exact ownPurgeFault_keeps o i sel s
  | isolate i a => exact ownIsolate_keeps i a s
  | releaseIsolation i => exact ownReleaseIsolation_keeps i s
  | supervise p i c a => exact ownSupervise_keeps tag p i c a s

/-! ### The Message Port (R168 to R172) -/

theorem State.answer_keeps {s : State} {typ tag : Byte} {x : State × Answer} (h : KeepsLists s x.1) :
    KeepsLists s (State.answer typ tag x) := h

theorem State.joinRequests_keeps (s : State) (f : Frame) : KeepsLists s (s.joinRequests f) := by
  refine .of_pairs ?_
  unfold State.joinRequests
  split
  · rfl
  · simp

theorem State.handleFrame_keeps (s : State) (f : Frame) : KeepsLists s (s.handleFrame f) := by
  unfold State.handleFrame
  split
  · exact .refl s
  · exact .refl s
  · exact State.answer_keeps (requestOwner_keeps _ _ s)

theorem State.takeOldest_keeps (s : State) : KeepsLists s s.takeOldest := by
  unfold State.takeOldest
  split
  · exact .refl s
  · refine KeepsLists.trans ?_ (State.handleFrame_keeps _ _)
    exact .of_pairs rfl

theorem State.takeUpTo_keeps (fuel : Nat) (s : State) : KeepsLists s (State.takeUpTo fuel s) := by
  induction fuel generalizing s with
  | zero => exact .refl s
  | succ fuel ih =>
    unfold State.takeUpTo
    split
    · exact s.takeOldest_keeps.trans (ih _)
    · exact .refl s

theorem State.takeRequests_keeps (s : State) : KeepsLists s s.takeRequests := State.takeUpTo_keeps _ s

theorem State.arrive_keeps (s : State) (f : Frame) : KeepsLists s (s.arrive f) := by
  unfold State.arrive
  split
  · exact s.handleFrame_keeps f
  · exact s.joinRequests_keeps f

theorem State.transmit_keeps (s : State) : KeepsLists s s.transmit := .of_pairs (by simp)

theorem State.receive_keeps (fuel : Nat) (bytes : List HeldByte) (s : State) :
    KeepsLists s (State.receive fuel bytes s) := by
  have discarded (s : State) : KeepsLists s s.discardFrame := .of_pairs (by simp [State.discardFrame])
  have completed (s : State) (f : Frame) : KeepsLists s (s.completeFrame f) :=
    ((s.joinRequests_keeps f).trans (State.takeRequests_keeps _)).trans (State.transmit_keeps _)
  induction fuel generalizing bytes s with
  | zero => exact .of_pairs rfl
  | succ fuel ih =>
    cases bytes with
    | nil => exact .of_pairs rfl
    | cons b rest =>
      unfold State.receive
      split
      · exact ih rest s
      · split
        · exact (discarded s).trans (ih _ _)
        · exact (completed s _).trans (ih _ _)
        · split
          · exact (discarded s).trans (ih _ _)
          · exact .of_pairs rfl

theorem State.rescan_keeps (s : State) (new : List HeldByte) : KeepsLists s (s.rescan new) := State.receive_keeps _ _ s

theorem State.transmitEnd_keeps (s : State) : KeepsLists s s.transmitEnd := by
  have sent (kind : SentKind) : KeepsLists s (s.frameSent kind) := .of_pairs (by cases kind <;> rfl)
  unfold State.transmitEnd
  split
  · exact ((sent _).trans (State.transmit_keeps _)).trans (State.takeRequests_keeps _)
  · exact .refl s

/-! ### Resets and the clock -/

theorem listInv_reset : ListInv PairState.reset :=
  ⟨by decide, by decide, by decide, fun r h => absurd h List.not_mem_nil, by decide⟩

/-- After a reset every list is empty and every configuration the default (R9, R64). -/
theorem keepInputs_keeps (s t : State) (h : t.pairs = PerPair.keepInputs s.pairs State.reset.pairs) : KeepsLists s t := by
  intro p _
  have : ListInv { PairState.reset with inputs := (s.pair p).inputs } := listInv_reset.congr rfl rfl
  simp only [State.pair, h]
  cases p <;> exact this

theorem State.resetEffect_keeps (s : State) : KeepsLists s s.resetEffect := by
  unfold State.resetEffect
  split
  · exact keepInputs_keeps s _ rfl
  · exact .refl s

theorem State.endLastSymbol_kept (s : State) (p : Pair) : LineKept s (s.endLastSymbol p) := by
  unfold State.endLastSymbol
  split
  · exact s.releaseTone_kept p
  · exact .refl s

theorem State.tick_keeps (s : State) : KeepsLists s s.tick := by
  have ticked {q : PairState} (h : ListInv q) : ListInv q.tick := h.congr rfl rfl
  refine KeepsLists.trans ?_ ((LineKept.foldl State.endLastSymbol_kept allPairs _).table.lists.trans
    (State.transmit_keeps _))
  intro p h
  cases p <;> exact ticked h

/-! ### Commands and steps -/

/-- A request row hands its request to the rule that owns it. -/
theorem exec_eq_request {i : Instr} {tag : Byte} {r : Request} (h : asRequest i = some (tag, r)) :
    exec i = request tag r (requestOwner tag r) := by
  cases i <;> cases h <;> rfl

theorem live_keeps {f : State → State} (hf : ∀ s, KeepsLists s (f s)) {s t : State} (h : live s f = .next t) :
    KeepsLists s t := by
  unfold live at h
  split at h <;> cases h
  · exact .refl s
  · exact (hf s).trans (State.transmit_keeps _)

theorem request_keeps {tag : Byte} {r : Request} {s t : State} (h : request tag r (requestOwner tag r) s = .next t) :
    KeepsLists s t := by
  refine live_keeps (fun s => ?_) h
  split
  · refine State.answer_keeps ?_
    split
    · exact requestOwner_keeps tag r s
    · exact .refl s
  · exact s.joinRequests_keeps _

theorem exec_keeps {i : Instr} {s t : State} (h : exec i s = .next t) : KeepsLists s t := by
  cases hr : asRequest i with
  | some x =>
    rw [exec_eq_request hr] at h
    exact request_keeps h
  | none =>
    cases i with
    | requestUnknownType tag typ payload => exact live_keeps (fun s => s.arrive_keeps _) h
    | resetTakesEffect => exact live_keeps State.resetEffect_keeps h
    | powerOnReset rate1 rate0 e =>
      cases h
      exact keepInputs_keeps s _ rfl
    | resetPinLow =>
      cases h
      exact .of_pairs rfl
    | frameReceived cs => exact live_keeps (fun s => (s.rescan_keeps []).trans (State.rescan_keeps _ _)) h
    | frameAgeExpired => exact live_keeps (fun s => s.rescan_keeps []) h
    | transmitFrameEnd => exact live_keeps State.transmitEnd_keeps h
    | timebaseFractionIncrement => exact live_keeps (f := State.fractionIncrement) (fun s => .of_pairs rfl) h
    | returnSample p strobe => exact live_keeps (fun s => (s.returnSample_kept p strobe).lists) h
    | returnLossDeclared p => exact live_keeps (fun s => (s.declareLoss_kept p).lists) h
    | periodBoundary p => exact live_keeps (fun s => (s.periodBoundary_kept p).lists) h
    | farActivityBlock p => exact live_keeps (fun s => (s.activityBlock_kept p).lists) h
    | farToneMillisecond p f3 f4 => exact live_keeps (fun s => (s.farMillisecond_kept p f3 f4).lists) h
    | passBegin p => exact live_keeps (fun s => (s.passBegin_kept p).lists) h
    | passEnd p => exact live_keeps (fun s => (s.passEnd_kept p).lists) h
    | sweepCompletion p => exact live_keeps (fun s => (s.completeSweep_kept p).lists) h
    | commandFrameEnd => exact live_keeps (fun s => s.frameEnd_kept.lists) h
    | driveErrorStop => exact live_keeps (fun s => s.driveStop_kept.lists) h
    | receptionStart => exact live_keeps (fun s => s.receptionStart_kept.lists) h
    | replyBit => exact live_keeps (fun s => s.replyBit_kept.lists) h
    | claimBurstEnd p => exact live_keeps (fun s => (s.claimBurstEnd_kept p).lists) h
    | keepBurstEnd p => exact live_keeps (fun s => (s.keepBurstEnd_kept p).lists) h
    | claimWon p => exact live_keeps (fun s => (s.claimWon_kept p).lists) h
    | claimTimeout p => exact live_keeps (fun s => (s.claimTimeout_kept p).lists) h
    | collision p => exact live_keeps (fun s => (s.collide_kept p).lists) h
    | toneSymbolMidpoint readback => exact live_keeps (fun s => (s.midpoint_kept readback).lists) h
    | _ => cases hr

theorem step_keeps {s t : State} (h : step s = .next t) : KeepsLists s t := by
  unfold step at h
  split at h
  next c rest _ =>
    have kept : KeepsLists { s with pending := rest } t := exec_keeps h
    exact kept
  · unfold idle at h
    split at h
    · cases h
      exact .refl s
    · split at h
      · exact exec_keeps h
      · cases h
        exact s.tick_keeps

/-- Settles O59: every operation keeps the list of each pair by itself (`step_keeps`). -/
theorem stepKeepsRepeaterLists : Obligations.StepKeepsRepeaterLists := by
  intro s t hs h p
  exact step_keeps h p (hs p)

end Sys2Proof.Machine
end

section
/-! Requests that name a pair: the pair number, CONFIGURE PAIR and the reads of a pair (R9 to R13, R52, R111, R165). -/

namespace Sys2Proof.Machine

/-! ### Pair numbers -/

/-- READ RESULTS refuses a bad pair number and a bad refresh option alike (R78, R185). -/
theorem ownReadResults_bad_pair {b : Byte} (h : b = 0 ∨ 4 < b.toNat) (refresh start count : Byte) (s : State) :
    ownReadResults b refresh start count s = (s, ⟨.badValue, [0, 0]⟩) := by
  unfold ownReadResults
  split
  · rfl
  · exact withPair_bad h _ s

theorem ownEditRepeater_bad_pair {b : Byte} (h : b = 0 ∨ 4 < b.toNat) {i changes : Byte} (low high presence baseline : Half)
    (excluded : Byte) (hc : changes.toNat < 64) (h23 : (changes.getLsbD 2 && changes.getLsbD 3) = false) (s : State) :
    ownEditRepeater b i changes low high presence baseline excluded s = (s, ⟨.badValue, [0, 0]⟩) := by
  unfold ownEditRepeater
  rw [if_neg (by omega), if_neg (by rw [h23]; exact Bool.false_ne_true)]
  exact withPair_bad h _ s

/-- Settles O14: the owner of each request examines the pair number first, but for the refresh option of READ RESULTS and
the change bitmap of EDIT REPEATER. -/
theorem badPairNumberRefused : Obligations.BadPairNumberRefused := by
  intro tag b s hb r hr
  rcases hr with ⟨_, rfl⟩ | rfl | ⟨_, rfl⟩ | ⟨_, _, rfl⟩ | rfl | ⟨_, rfl⟩ | rfl | ⟨_, _, rfl⟩ | ⟨_, rfl⟩ | ⟨_, rfl⟩
    | ⟨refresh, start, count, rfl⟩ | ⟨_, _, low, high, presence, baseline, excluded, hc, h23, rfl⟩ | ⟨_, _, rfl⟩ | rfl | rfl
    | ⟨_, _, _, rfl⟩
  all_goals unfold requestOwner
  rotate_left 10
  · exact ownReadResults_bad_pair hb refresh start count s
  · exact ownEditRepeater_bad_pair hb low high presence baseline excluded hc h23 s
  all_goals exact withPair_bad hb _ s

/-! ### How a ready part takes a request row -/

/-- A request row that a ready part receives: its owner acts, and its reply joins the reply queue (R171). -/
theorem exec_ready {i : Instr} {tag : Byte} {r : Request} {s : State} (hs : s.Ready) (hi : asRequest i = some (tag, r))
    (hf : r.fits = true) : exec i s = .next (State.answer r.typ tag (requestOwner tag r s)).transmit := by
  rw [exec_eq_request hi]
  exact request_ready hs tag hf _

/-- The row of a request whose owner answers and says what the state is then. -/
theorem exec_answers {i : Instr} {tag : Byte} {r : Request} {s t : State} {a : Answer} (hs : s.Ready)
    (hi : asRequest i = some (tag, r)) (hf : r.fits = true) (ho : requestOwner tag r s = (t, a)) :
    exec i s = .next (t.replied (r.typ + 0x80) tag (a.status.code :: a.data)) := by
  rw [exec_ready hs hi hf, ho, answer_transmit_eq]

/-! ### CONFIGURE PAIR (R10 to R12) -/

theorem exec_configurePair {tag : Byte} {p : Pair} {ps : List Word} {s t : State} {a : Answer} (hs : s.Ready)
    (hl : ps.length = 32) (ho : ownConfigurePair (pairByte p) ps s = (t, a)) :
    exec (.configurePair tag (pairByte p) ps) s = .next (t.replied (0x10 + 0x80) tag (a.status.code :: a.data)) :=
  exec_answers (r := .configurePair (pairByte p) ps) hs rfl (by simp [Request.fits, hl]) ho

theorem Role.name_ne_iff {r : Role} :
    (r.name ≠ .parked ∧ r.name ≠ .listen ↔ ¬(r = .parked ∨ r = .listen)) := by cases r <;> simp [Role.name]

theorem Role.name_eq_parked {r : Role} : r.name = .parked ↔ r = .parked := by cases r <;> simp [Role.name]

theorem ownConfigurePair_wrongState {p : Pair} {s : State} (h : ¬((s.pair p).role = .parked ∨ (s.pair p).role = .listen))
    (ps : List Word) : ownConfigurePair (pairByte p) ps s = (s, .refused .wrongState) := by
  unfold ownConfigurePair
  rw [withPair_pairByte]
  exact if_pos (Role.name_ne_iff.mpr h)

theorem ownConfigurePair_badValue {p : Pair} {s : State} {ps : List Word} {n : Nat}
    (h : (s.pair p).role = .parked ∨ (s.pair p).role = .listen)
    (hps : firstFailing (ps.map (·.toNat)) (s.pair p).records = some n) :
    ownConfigurePair (pairByte p) ps s = (s, .refused .badValue 0 (BitVec.ofNat 8 n)) := by
  unfold ownConfigurePair
  rw [withPair_pairByte]
  dsimp only
  rw [if_neg (mt Role.name_ne_iff.mp (not_not.mpr h)), hps]

theorem ownConfigurePair_taken {p : Pair} {s : State} {ps : List Word}
    (h : (s.pair p).role = .parked ∨ (s.pair p).role = .listen)
    (hps : firstFailing (ps.map (·.toNat)) (s.pair p).records = none) :
    ownConfigurePair (pairByte p) ps s
      = (s.setPair p ((s.pair p).configure (.ofParams (ps.map (·.toNat)))), .ok []) := by
  unfold ownConfigurePair
  rw [withPair_pairByte]
  dsimp only
  rw [if_neg (mt Role.name_ne_iff.mp (not_not.mpr h)), hps]

/-- What a taken configuration writes (R12, R27). -/
theorem PairState.configure_eq (q : PairState) (c : PairConfig) :
    q.configure c = { q with
      config := c
      clock := if q.role = .parked then q.clock else ⟨0, 0, 0, 0, false⟩
      det := if q.role = .parked then q.det else { q.det with
        lossRun := 0, strong := 0, disagree := 0, blockSum := 0, blockPos := 0,
        claimTone := ⟨q.det.claimTone.held, 0⟩, keepTone := ⟨q.det.keepTone.held, 0⟩ } } := by
  unfold PairState.configure
  by_cases h : q.role = .parked
  · simp [h, Role.name]
  · simp [Role.name_eq_parked, h, ChipClock.origin, Detectors.restart]

/-- Settles O19: the 32 numbers pass, so they are the parameters of the configuration that is stored
(`PairConfig.toParams_ofParams_of_length`). -/
theorem configurePairTaken : Obligations.ConfigurePairTaken := by
  intro tag p ps s hs hl hr hps q
  refine ⟨.ofParams (ps.map (·.toNat)), PairConfig.toParams_ofParams_of_length hps (by simpa using hl), ?_⟩
  have taken := ownConfigurePair_taken hr hps
  rw [PairState.configure_eq] at taken
  exact (exec_configurePair hs hl taken).trans rfl

/-- The first of the 32 that fails is the one named (R10). -/
theorem firstFailing_eq_some {ps : List Nat} {rs : List RepeaterRecord} {n : Nat} (h1 : 1 ≤ n) (h2 : n ≤ 32)
    (hpass : ∀ m, 1 ≤ m → m < n → paramPasses ps rs m = true) (hfail : paramPasses ps rs n = false) :
    firstFailing ps rs = some n := by
  have cut : (List.range 32).map (· + 1) = List.range' 1 (n - 1) ++ n :: List.range' (n + 1) (32 - n) := by
    have e : List.range' 1 (n - 1) ++ List.range' (1 + (n - 1)) (33 - n) = List.range' 1 (n - 1 + (33 - n)) :=
      List.range'_append_1
    have h32 : n - 1 + (33 - n) = 32 := by omega
    have hn : 1 + (n - 1) = n := by omega
    have hs : 33 - n = (32 - n) + 1 := by omega
    rw [h32, hn, hs, List.range'_succ] at e
    rw [e]
    rfl
  unfold firstFailing
  rw [cut]
  refine find_of_split _ (fun m hm => ?_) (by simp [hfail])
  have := List.mem_range'_1.mp hm
  simp [hpass m (by omega) (by omega)]

theorem windowsFit_iff {rs : List RepeaterRecord} {length : Nat} :
    windowsFit rs length = true ↔ ∀ r ∈ rs, r.nominalLag + r.driftLimit + r.halfWidth ≤ length - 1 := by simp [windowsFit]

/-- The policies that a class allows, by code (R11, R136). -/
theorem policyFits_iff {c : FaultClass} {v : Nat} :
    policyFits c v = true ↔ v ∈ match c with
      | .break => [0]
      | .loopbackLoss => [0, 1]
      | .dip | .step => [0, 1, 2]
      | .surge | .unstable => [0, 1, 3] := by
  match v with
  | 0 | 1 | 2 | 3 => cases c <;> decide
  | v + 4 => cases c <;> simp [policyFits, policyOf]

/-- Settles O20: the refusals, then the range or the listed values of each parameter. -/
theorem configurePairRefused : Obligations.ConfigurePairRefused := by
  refine ⟨fun tag p ps s hs hl => ⟨fun hp hl' => ?_, fun n hr h1 h2 hpass hfail => ?_⟩, fun ps rs => ?_, fun ps rs => ?_,
    fun ps rs n lo hi hn => ?_, fun ps rs n values hn => ?_⟩
  · exact (exec_configurePair hs hl (ownConfigurePair_wrongState (not_or.mpr ⟨hp, hl'⟩) ps)).trans rfl
  · have refused := ownConfigurePair_badValue hr (firstFailing_eq_some h1 h2 hpass hfail)
    exact (exec_configurePair hs hl refused).trans rfl
  · simp only [paramPasses, Bool.and_eq_true, inRange_iff, windowsFit_iff, and_assoc]
    exact Iff.rfl
  · simp [paramPasses, inRange, and_assoc]
  · simp only [List.mem_cons, Prod.mk.injEq, List.not_mem_nil, or_false] at hn
    rcases hn with h | h | h | h | h | h | h | h | h | h | h | h | h | h | h | h | h | h | h | h | h | h <;>
      (obtain ⟨rfl, rfl, rfl⟩ := h; exact inRange_iff)
  · simp only [List.mem_cons, Prod.mk.injEq, List.not_mem_nil, or_false] at hn
    rcases hn with ⟨rfl, rfl⟩ | ⟨rfl, rfl⟩ | h | h | h | h | h | h
    · simp [paramPasses]
    · simp [paramPasses]
    all_goals
      obtain ⟨rfl, rfl⟩ := h
      exact policyFits_iff

/-! ### The reads of a pair (R13, R52, R111, R165) -/

/-- Settles O24: each of the four reads is answered from the pair as it stands. -/
theorem pairReadsAnswerAndKeep : Obligations.PairReadsAnswerAndKeep := by
  intro tag p s hs q
  refine ⟨?_, ?_, ?_, fun i => ⟨fun r hr => ?_, fun hr => ?_⟩⟩
  · have answered : ownReadPairConfig (pairByte p) s = (s, .ok (configBlock q)) := withPair_pairByte p _ s
    exact (exec_answers (r := .readPairConfig (pairByte p)) hs rfl rfl answered).trans rfl
  · have answered : ownReadRole (pairByte p) s = (s, .ok (roleBlock s.endSetting q)) := withPair_pairByte p _ s
    exact (exec_answers (r := .readRole (pairByte p)) hs rfl rfl answered).trans rfl
  · have answered : ownReadLearning (pairByte p) s = (s, .ok (learningBlock q)) := withPair_pairByte p _ s
    exact (exec_answers (r := .readLearning (pairByte p)) hs rfl rfl answered).trans rfl
  · have answered : ownReadRepeater (pairByte p) i s = (s, .ok (repeaterBlock (decide (q.learn ≠ .idle)) r)) := by
      simp only [ownReadRepeater, withPair_pairByte, hr, q]
    exact (exec_answers (r := .readRepeater (pairByte p) i) hs rfl rfl answered).trans rfl
  · have refused : ownReadRepeater (pairByte p) i s = (s, .refused .notFound) := by
      have missing : recordAt (s.pair p).records i.toNat = none := hr
      simp only [ownReadRepeater, withPair_pairByte, missing]
    exact (exec_answers (r := .readRepeater (pairByte p) i) hs rfl rfl refused).trans rfl

end Sys2Proof.Machine
end

section
/-! The probe sequence as its recurrence gives it (R3, R4), and the chip on the line (R5). -/

namespace Sys2Proof.Machine

/-! ### The register of the sequence -/

/-- One position later every bit has moved down, and the recurrence gives the bit of place n-1. -/
theorem getLsbD_probeNext {n : Nat} (h1 : 1 ≤ n) (h2 : n ≤ 16) (r : BitVec 16) (i : Nat) :
    (probeNext n r).getLsbD i = (r.getLsbD (i + 1) || (decide (i = n - 1) && probeFeedback n r)) := by
  have place : (BitVec.ofNat 16 (2 ^ (n - 1))).getLsbD i = decide (i = n - 1) := by
    rw [BitVec.getLsbD_ofNat, Nat.testBit_two_pow]
    by_cases hi : i = n - 1
    · have : n - 1 < 16 := by omega
      simp [hi, this]
    · simp [hi, Ne.symm hi]
  unfold probeNext
  rw [BitVec.getLsbD_or, BitVec.getLsbD_ushiftRight, Nat.add_comm]
  by_cases hf : probeFeedback n r = true
  · rw [if_pos hf, place, hf, Bool.and_true]
  · simp [hf]

/-- The register has no bit behind its n places. -/
theorem getLsbD_probeRegister_high {n : Nat} (h1 : 1 ≤ n) (h2 : n ≤ 16) (t : Nat) {i : Nat} (hi : n ≤ i) :
    (probeRegister n t).getLsbD i = false := by
  induction t generalizing i with
  | zero => simp [probeRegister, BitVec.getLsbD_ofNat, Nat.testBit_two_pow_sub_one, Nat.not_lt.mpr hi]
  | succ t ih =>
    have hne : i ≠ n - 1 := by omega
    simp [probeRegister, getLsbD_probeNext h1 h2, ih (i := i + 1) (by omega), hne]

/-- At position t place i of the register holds a(t+i). -/
theorem getLsbD_probeRegister {n : Nat} (h1 : 1 ≤ n) (h2 : n ≤ 16) (t : Nat) {i : Nat} (hi : i < n) :
    (probeRegister n t).getLsbD i = probeBit n (t + i) := by
  induction i generalizing t with
  | zero => rfl
  | succ i ih =>
    have hne : i ≠ n - 1 := by omega
    have moved : (probeRegister n (t + 1)).getLsbD i = (probeRegister n t).getLsbD (i + 1) := by
      simp [probeRegister, getLsbD_probeNext h1 h2, hne]
    rw [← moved, ih (t + 1) (by omega)]
    congr 1
    omega

/-- a(t+n) is what the recurrence gives of the register at t (R3). -/
theorem probeBit_add_order {n : Nat} (h1 : 1 ≤ n) (h2 : n ≤ 16) (t : Nat) :
    probeBit n (t + n) = probeFeedback n (probeRegister n t) := by
  have last : (probeRegister n (t + 1)).getLsbD (n - 1) = probeFeedback n (probeRegister n t) := by
    have h : n - 1 + 1 = n := by omega
    simp [probeRegister, getLsbD_probeNext h1 h2, h, getLsbD_probeRegister_high h1 h2 t (Nat.le_refl n)]
  rw [← last, getLsbD_probeRegister h1 h2 (t + 1) (by omega)]
  congr 1
  omega

/-- The first n bits are ones (R3). -/
theorem probeBit_first {n t : Nat} (h1 : 1 ≤ n) (h2 : n ≤ 16) (ht : t < n) : probeBit n t = true := by
  have := getLsbD_probeRegister h1 h2 0 ht
  rw [Nat.zero_add] at this
  rw [← this]
  simp [probeRegister, BitVec.getLsbD_ofNat, Nat.testBit_two_pow_sub_one, ht]
  omega

/-! ### The chip before a chip (R4) -/

/-- Counting back d positions from c, modulo a length. -/
theorem sub_emod_toNat (c d : Nat) {l : Nat} (hl : 0 < l) :
    (((c : Int) - d) % (l : Int)).toNat = (c + (l - d % l)) % l := by
  have hd : d % l ≤ l := (Nat.mod_lt d hl).le
  have : ((c : Int) - d) % (l : Int) = (((c + (l - d % l)) % l : Nat) : Int) := by
    push_cast [Nat.cast_sub hd]
    have back : (c : Int) + (l - d % l) = c - d % l + l := by ring
    rw [back, Int.add_emod_right, Int.sub_emod_emod]
  rw [this, Int.toNat_natCast]

theorem chipBefore_eq {n : Nat} (hn : 1 ≤ n) (c d : Nat) :
    chipBefore n c d = if probeBit n (((c : Int) - d) % ((2 ^ n - 1 : Nat) : Int)).toNat then 1 else -1 := by
  have hl : 0 < 2 ^ n - 1 := by
    have := Nat.one_lt_two_pow (n := n) (by omega)
    omega
  rw [sub_emod_toNat c d hl]
  rfl

/-- Settles O51: the recurrence is read off the register (`probeBit_add_order`, `getLsbD_probeRegister`). -/
theorem probeFollowsItsRecurrence : Obligations.ProbeFollowsItsRecurrence := by
  refine ⟨fun n t h1 h2 ht => probeBit_first (by omega) h2 ht, fun t => ?_, fun n c d h1 _ _ => chipBefore_eq (by omega) c d,
    fun s p hp hr => ?_⟩
  · refine ⟨?_, ?_, ?_, ?_, ?_⟩ <;>
      simp only [probeBit_add_order, probeFeedback, getLsbD_probeRegister, Nat.reduceLeDiff, Nat.reduceLT, Nat.add_zero]
  · simp [State.driveWord, hp, hr]

end Sys2Proof.Machine
end

section
/-! PERIOD BOUNDARY (R2, R21, R22, R33, R66): what the arbiter, a plan and the queue's next start leave of the bank and the
sweeps, and the boundary that a pair crosses. -/

namespace Sys2Proof.Machine

/-! ### The bank and the sweeps under a plan, the arbiter and the queue's next start -/

@[simp] theorem State.planSweep_bank (s : State) (await : Bool) (p : Pair) : (s.planSweep await p).bank = s.bank := by
  rcases s.planSweep_cases await p with h | ⟨_, _, h⟩ <;> rw [h]
  rfl

@[simp] theorem State.askTone_bank (s : State) (p : Pair) : (s.askTone p).bank = s.bank := by
  rcases s.askTone_cases p with ⟨_, h⟩ | ⟨_, h⟩ <;> rw [h] <;> rfl

@[simp] theorem State.startNext_bank (s : State) : s.startNext.bank = s.bank := by
  rcases s.startNext_cases with h | ⟨e, _, _, h⟩ <;> rw [h]
  exact State.askTone_bank _ _

/-- A bank that holds a pass is granted to nobody (R69). -/
theorem State.arbitrate_of_busy {s : State} (h : s.bank ≠ .idle) : s.arbitrate = s := by
  rcases s.arbitrate_cases with e | ⟨_, _, hb, _⟩
  · exact e
  · exact absurd hb h

/-- The queue's next start takes a tone field and no sweep (R117). -/
@[simp] theorem State.startNext_sweep (s : State) (p : Pair) : (s.startNext.pair p).sweep = (s.pair p).sweep := by
  have asked (s : State) (p' : Pair) (f : ToneField → ToneField) :
      ((s.modPair p' fun q => { q with tone := f q.tone }).pair p).sweep = (s.pair p).sweep :=
    State.forall_pair_setPair (R := fun q q' => q'.sweep = q.sweep) (fun _ => rfl) (by rfl) p
  rcases s.startNext_cases with h | ⟨e, _, _, h⟩ <;> rw [h]
  rcases State.askTone_cases _ e.pair with ⟨_, h⟩ | ⟨_, h⟩ <;> rw [h]
  · exact asked _ e.pair fun t => { t with use := .commandFrame }
  · exact asked _ e.pair fun t => { t with waiting := t.waiting ++ [.commandFrame] }

/-- A grant keeps every sweep (R69). -/
theorem State.arbitrate_sweep_isSome (s : State) (p : Pair) :
    (s.arbitrate.pair p).sweep.isSome = (s.pair p).sweep.isSome := by
  rcases s.arbitrate_cases with h | ⟨p', w, _, _, hw, h⟩ <;> rw [h]
  exact State.forall_pair_setPair (R := fun q q' => q'.sweep.isSome = q.sweep.isSome) (fun _ => rfl)
    (q := { s.pair p' with sweep := some { w with stage := .inBank } }) (by simp [hw]) p

/-- A pair that may sweep has a sweep once it has been planned (R66). -/
theorem State.planSweep_isSome {s : State} {p : Pair} (h : (s.pair p).maySweep = true) (await : Bool) :
    ((s.planSweep await p).pair p).sweep.isSome = true := by
  unfold State.planSweep
  dsimp only
  cases hw : (s.pair p).sweep <;> simp [h, hw]

/-! ### The boundary -/

theorem Role.name_eq_synthetic {r : Role} : r.name = .synthetic ↔ r = .synthetic := by cases r <;> simp [Role.name]

/-- At least half of the period's samples were strong (R21). -/
theorem PairState.lossClears_eq (q : PairState) :
    q.lossClears = (q.det.lossDeclared && decide (2 ^ q.config.order - 1 ≤ 2 * q.det.strong)) := by
  have half : (q.config.length + 1) / 2 ≤ q.det.strong ↔ 2 ^ q.config.order - 1 ≤ 2 * q.det.strong := by
    unfold PairConfig.length lengthOf
    omega
  simp [PairState.lossClears, half]

/-- A pass that the bank holds stays there while a loss clears (R66, R69). -/
theorem State.lossCleared_bank {s : State} (h : s.bank ≠ .idle) (p : Pair) : (s.lossCleared p).bank = s.bank := by
  have planned : ((s.setPairFlag p .returnLoss).planSweep false p).bank = s.bank := by simp
  unfold State.lossCleared State.considerSweep
  rw [State.startNext_bank, State.arbitrate_of_busy (by rwa [planned]), planned]

theorem State.lossCleared_sweep {s : State} {p : Pair} (h : (s.pair p).maySweep = true) :
    ((s.lossCleared p).pair p).sweep.isSome = true := by
  unfold State.lossCleared State.considerSweep
  rw [State.startNext_sweep, State.arbitrate_sweep_isSome]
  exact State.planSweep_isSome (s := s.setPairFlag p .returnLoss) h false

/-- What a boundary makes of its pair and of the bank before a cleared loss takes effect (R2, R21, R33). -/
def State.crossed (s : State) (p : Pair) : State :=
  { s.setPair p (s.pair p).crossBoundary with bank := s.bank.countPeriod p }

theorem State.pair_crossed_same (s : State) (p : Pair) : (s.crossed p).pair p = (s.pair p).crossBoundary :=
  State.pair_setPair_same s p _

theorem State.pair_crossed_other (s : State) {p p' : Pair} (h : p' ≠ p) : (s.crossed p).pair p' = s.pair p' :=
  State.pair_setPair_other s _ h

/-- A period boundary that is due: the pair crosses it, and a loss that clears takes effect. -/
theorem exec_periodBoundary {s : State} {p : Pair} (hs : s.inReset = false) (hr : (s.pair p).role ≠ .parked)
    (hd : (s.pair p).clock.periodDue = true) :
    exec (.periodBoundary p) s = .next
      (if (s.pair p).lossClears then (s.crossed p).lossCleared p else s.crossed p).transmit := by
  have due : (s.pair p).boundaryDue = true := by simp [PairState.boundaryDue, Role.name_eq_parked, hr, hd]
  refine (live_running hs _).trans ?_
  dsimp only
  rw [if_pos due]
  rfl

/-- Settles O43: the pair is what `crossBoundary` makes of it, and what a cleared loss sets off keeps that (`PairKept`). -/
theorem periodBoundaryIsCrossed : Obligations.PeriodBoundaryIsCrossed := by
  intro p s hs hr hd q clears
  have hc : q.lossClears = clears := q.lossClears_eq
  refine ⟨_, exec_periodBoundary hs hr hd, ?_⟩
  rw [show (s.pair p).lossClears = clears from hc]
  have kept : LineKept (s.crossed p) (if clears = true then (s.crossed p).lossCleared p else s.crossed p).transmit := by
    refine LineKept.trans ?_ (State.transmit_kept _).line
    split
    · exact State.lossCleared_kept _ p
    · exact .refl _
  have own := kept.pair p
  rw [State.pair_crossed_same] at own
  have busy (l : BankLoad) (done : Nat) (hb : (s.crossed p).bank = .running l done) :
      (if clears = true then (s.crossed p).lossCleared p else s.crossed p).transmit.bank = .running l done := by
    rw [State.transmit_bank, ← hb]
    split
    · exact State.lossCleared_bank (by rw [hb]; exact Bank.noConfusion) p
    · rfl
  refine ⟨own.clock, ?_, own.role, own.records, ?_, own.probeOn, fun l done hb hl => ?_, fun l done hb hl => ?_, fun h => ?_,
    fun h hrole hrec => ?_, fun h => ?_, fun p' hp' => ?_⟩
  · rw [own.det, ← hc]
    rfl
  · rw [own.source]
    simp only [PairState.crossBoundary, PairState.beginChip, Role.name_eq_synthetic]
    rfl
  · exact busy l (done + 1) (by simp [State.crossed, hb, Bank.countPeriod, hl])
  · rw [hb]
    exact busy l done (by simp [State.crossed, hb, Bank.countPeriod, hl])
  · rw [if_pos h, State.transmit_port_flags]
    have consider := State.considerSweep_kept ((s.crossed p).setPairFlag p .returnLoss) p
    exact (consider.trans (State.startNext_kept _)).flags p .returnLoss (State.setPairFlag_get_same _ p .returnLoss)
  · rw [if_pos h, State.pair_transmit]
    refine State.lossCleared_sweep ?_
    rw [State.pair_crossed_same]
    obtain ⟨r, hm, hx⟩ := hrec
    have lit : (q.crossBoundary.det.lossDeclared) = false := by
      show (q.det.lossDeclared && !q.lossClears) = false
      simp [hc, h]
    have role : (decide (q.role.name = .holder) || decide (q.role.name = .synthetic)) = true := by
      simpa [Role.name_eq_synthetic] using hrole
    have eligible : (q.records.any fun r => !r.excluded) = true := List.any_eq_true.mpr ⟨r, hm, by simp [hx]⟩
    show ((decide (q.role.name = .holder) || decide (q.role.name = .synthetic)) && !q.crossBoundary.det.lossDeclared
      && q.records.any fun r => !r.excluded) = true
    rw [lit, role, eligible]
    rfl
  · rw [h]
    simp only [Bool.false_eq_true, if_false]
    refine ⟨State.transmit_port_flags _, ?_, fun p' hp' => ?_⟩
    · rw [State.transmit_bank]
      unfold State.crossed Bank.countPeriod
      cases hb : s.bank with
      | running l done => dsimp only; split <;> rfl
      | _ => rfl
    · rw [State.pair_transmit, State.pair_crossed_other _ hp']
  · have other := kept.pair p'
    rwa [State.pair_crossed_other _ hp'] at other

end Sys2Proof.Machine
end

section
/-! What the loss of a role ends: the entries that wait for the pair, and the sequences that wait for the queue or for such
an entry (R128, R131, R147, R149). -/

namespace Sys2Proof.Machine

/-! ### Sequences that a role loss ends -/

/-- A record whose sequence has ended with ROLE LOST (R147, R149). -/
def FaultRecord.roleLost (r : FaultRecord) : FaultRecord :=
  { r with
    state := .unresolved
    action := r.action.map fun a => { a with step := .done, result := .exchange .roleLost } }

/-- Whether a record's sequence waits for an entry of its own: step QUERYING or COMMANDING in ACTING (R135). -/
def FaultRecord.awaitsEntry (r : FaultRecord) : Bool :=
  decide (r.state = .acting) && match r.action with
    | some a => match a.step with
      | .querying | .commanding => true
      | _ => false
    | none => false

@[simp] theorem FaultRecord.roleLost_id (r : FaultRecord) : r.roleLost.id = r.id := rfl

@[simp] theorem FaultRecord.roleLost_roleLost (r : FaultRecord) : r.roleLost.roleLost = r.roleLost := by
  simp [FaultRecord.roleLost, Function.comp_def]

@[simp] theorem FaultRecord.awaitsEntry_roleLost (r : FaultRecord) : r.roleLost.awaitsEntry = false := by
  simp [FaultRecord.awaitsEntry, FaultRecord.roleLost]

/-- A sequence waits for the queue or for its entry, never for both (R135, R149). -/
theorem FaultRecord.losesRole_eq (r : FaultRecord) (p : Pair) (queue : List QueueEntry) :
    r.losesRole p queue = (r.waitsForQueue p || (r.awaitsEntry && queue.any fun e =>
      e.isWaiting && decide (e.pair = p) && decide (e.origin = .fault r.id))) := by
  unfold FaultRecord.losesRole FaultRecord.waitsForQueue FaultRecord.awaitsEntry
  cases hs : decide (r.state = .acting)
  · simp
  · cases ha : r.action with
    | none => simp
    | some a => cases hstep : a.step <;> simp [hstep]

/-- The sequences of a fault list that end with ROLE LOST. -/
def endSequences (ends : FaultRecord → Bool) (faults : List FaultRecord) : List FaultRecord :=
  faults.map fun r => if ends r then r.roleLost else r

theorem faultsAfterRoleLoss_eq (p : Pair) (queue : List QueueEntry) (faults : List FaultRecord) :
    faultsAfterRoleLoss p queue faults = endSequences (·.losesRole p queue) faults := rfl

theorem endSequences_congr {f g : FaultRecord → Bool} {faults : List FaultRecord} (h : ∀ r ∈ faults, f r = g r) :
    endSequences f faults = endSequences g faults := List.map_congr_left fun r hr => by rw [h r hr]

theorem endSequences_none {f : FaultRecord → Bool} {faults : List FaultRecord} (h : ∀ r ∈ faults, f r = false) :
    endSequences f faults = faults := by
  rw [endSequences_congr h]
  simp [endSequences]

/-- Ends one after the other are the ends together. -/
theorem endSequences_endSequences (f g : FaultRecord → Bool) (faults : List FaultRecord) :
    endSequences g (endSequences f faults) = endSequences (fun r => f r || g r) faults := by
  unfold endSequences
  rw [List.map_map]
  refine List.map_congr_left fun r _ => ?_
  cases hf : f r <;> simp [hf]

@[simp] theorem endSequences_ids (f : FaultRecord → Bool) (faults : List FaultRecord) :
    (endSequences f faults).map (·.id) = faults.map (·.id) := by
  unfold endSequences
  rw [List.map_map]
  refine List.map_congr_left fun r _ => ?_
  dsimp only [Function.comp]
  split <;> rfl

theorem mem_endSequences {f : FaultRecord → Bool} {faults : List FaultRecord} {r : FaultRecord} (hr : r ∈ faults)
    (hf : f r = false) : r ∈ endSequences f faults := List.mem_map.mpr ⟨r, hr, by simp [hf]⟩

theorem State.endSequence_faults (s : State) (r : FaultRecord) :
    (s.endSequence r (.exchange .roleLost) .unresolved).faults
      = endSequences (fun x => decide (x.id = r.id)) s.faults := by
  simp [State.endSequence, State.modFault, endSequences, FaultRecord.modAction, FaultRecord.roleLost]

/-- A fold that keeps a part of the state at each element keeps it. -/
theorem State.foldl_keeps {α β : Type} {f : State → α → State} {part : State → β} (hf : ∀ s x, part (f s x) = part s)
    (xs : List α) (s : State) : part (xs.foldl f s) = part s := by
  induction xs generalizing s with
  | nil => rfl
  | cons x xs ih => exact (ih _).trans (hf s x)

/-! ### Steps that wait for the queue (R149) -/

theorem State.endWaitingSteps_queue (s : State) (p : Pair) : (s.endWaitingSteps p).queue = s.queue :=
  State.foldl_keeps (f := fun s r => s.endSequence r (.exchange .roleLost) .unresolved) (part := State.queue)
    (fun _ _ => rfl) _ s

theorem State.endWaitingSteps_faults {s : State} (hd : (s.faults.map (·.id)).Nodup) (p : Pair) :
    (s.endWaitingSteps p).faults = endSequences (·.waitsForQueue p) s.faults := by
  have folded (rs : List FaultRecord) (s : State) :
      (rs.foldl (fun s r => s.endSequence r (.exchange .roleLost) .unresolved) s).faults
        = endSequences (fun x => decide (x.id ∈ rs.map (·.id))) s.faults := by
    induction rs generalizing s with
    | nil => simp [endSequences]
    | cons r rs ih => simp [ih, State.endSequence_faults, endSequences_endSequences, Bool.decide_or]
  refine (folded _ s).trans (endSequences_congr fun r hr => ?_)
  cases hw : r.waitsForQueue p
  · refine decide_eq_false fun hm => ?_
    obtain ⟨x, hx, hid⟩ := List.mem_map.mp hm
    obtain ⟨hx, hwx⟩ := List.mem_filter.mp hx
    obtain rfl := List.inj_on_of_nodup_map hd hx hr hid
    simp [hw] at hwx
  · exact decide_eq_true (List.mem_map.mpr ⟨r, List.mem_filter.mpr ⟨hr, hw⟩, rfl⟩)

/-- Every sequence that ends sets FAULT CHANGE of its record's pair (R97). -/
theorem State.foldl_endSequence_flag {rs : List FaultRecord} {r : FaultRecord} (hr : r ∈ rs) (s : State) :
    ((rs.foldl (fun s r => s.endSequence r (.exchange .roleLost) .unresolved) s).port.flags.pairs.get r.pair).get
      .faultChange = true := by
  induction rs generalizing s with
  | nil => cases hr
  | cons x rs ih =>
    rcases List.mem_cons.mp hr with rfl | hr
    · exact (BookKept.foldl (fun s r => s.endSequence_kept r _ _) rs _).flags r.pair .faultChange
        (State.setPairFlag_get_same _ _ _)
    · exact ih hr _

/-! ### Entries that wait for the pair (R128, R131) -/

/-- ROLE LOST reaches a record that waits for its entry, and no other (R147). -/
theorem State.deliver_roleLost (s : State) (id : Nat) : s.deliver id .roleLost [] =
    match s.faultAt id with
    | some r => if r.awaitsEntry then s.endSequence r (.exchange .roleLost) .unresolved else s
    | none => s := by
  unfold State.deliver
  cases hr : s.faultAt id with
  | none => rfl
  | some r =>
    cases hs : r.state <;> cases ha : r.action <;> simp [FaultRecord.awaitsEntry, hs, ha]
    next a => cases a.step <;> rfl

theorem State.deliver_roleLost_queue (s : State) (id : Nat) : (s.deliver id .roleLost []).queue = s.queue := by
  rw [State.deliver_roleLost]
  split
  · split <;> rfl
  · rfl

/-- The record that an id finds in a list without repeated ids (R82). -/
theorem State.faultAt_of_mem {s : State} (hd : (s.faults.map (·.id)).Nodup) {r : FaultRecord} (hr : r ∈ s.faults) :
    s.faultAt r.id = some r := by
  unfold State.faultAt
  cases hf : s.faults.find? fun x => x.id == r.id with
  | none => exact absurd (List.find?_eq_none.mp hf r hr) (by simp)
  | some x =>
    have hid : x.id = r.id := by simpa using List.find?_some hf
    rw [List.inj_on_of_nodup_map hd (List.mem_of_find?_eq_some hf) hr hid]

theorem State.deliver_roleLost_faults {s : State} (hd : (s.faults.map (·.id)).Nodup) (id : Nat) :
    (s.deliver id .roleLost []).faults = endSequences (fun x => decide (x.id = id) && x.awaitsEntry) s.faults := by
  rw [State.deliver_roleLost]
  cases hf : s.faultAt id with
  | none =>
    refine (endSequences_none fun r hr => ?_).symm
    have : ¬(r.id == id) = true := List.find?_eq_none.mp hf r hr
    simp_all
  | some r =>
    have hid : r.id = id := by simpa using List.find?_some hf
    have hm : r ∈ s.faults := List.mem_of_find?_eq_some hf
    have named (x : FaultRecord) (hx : x ∈ s.faults) :
        (decide (x.id = id) && x.awaitsEntry) = (decide (x.id = r.id) && r.awaitsEntry) := by
      by_cases h : x.id = r.id
      · rw [List.inj_on_of_nodup_map hd hx hm h, hid]
      · simp [h, ← hid]
    rw [endSequences_congr named]
    cases hw : r.awaitsEntry
    · simp [hw, endSequences]
    · simp [hw, State.endSequence_faults]

theorem State.foldl_deliver_faults {s : State} (hd : (s.faults.map (·.id)).Nodup) (ids : List Nat) :
    (ids.foldl (fun s id => s.deliver id .roleLost []) s).faults
      = endSequences (fun x => decide (x.id ∈ ids) && x.awaitsEntry) s.faults := by
  induction ids generalizing s with
  | nil => simp [endSequences]
  | cons id ids ih =>
    have head := State.deliver_roleLost_faults hd id
    rw [List.foldl_cons, ih (by rw [head]; simpa using hd), head, endSequences_endSequences]
    refine endSequences_congr fun r _ => ?_
    simp [Bool.decide_or, Bool.and_or_distrib_right]

theorem State.foldl_deliver_flag {s : State} (hd : (s.faults.map (·.id)).Nodup) {ids : List Nat} {r : FaultRecord}
    (hr : r ∈ s.faults) (hw : r.awaitsEntry = true) (hid : r.id ∈ ids) :
    ((ids.foldl (fun s id => s.deliver id .roleLost []) s).port.flags.pairs.get r.pair).get .faultChange = true := by
  induction ids generalizing s with
  | nil => cases hid
  | cons id ids ih =>
    by_cases h : r.id = id
    · subst h
      refine (BookKept.foldl (fun s id => s.deliver_kept id _ _) ids _).flags r.pair .faultChange ?_
      simp only [State.deliver_roleLost, State.faultAt_of_mem hd hr, hw, if_true]
      exact State.setPairFlag_get_same _ _ _
    · have head := State.deliver_roleLost_faults hd id
      refine ih (by rw [head]; simpa using hd) ?_ ((List.mem_cons.mp hid).resolve_left h)
      rw [head]
      exact mem_endSequences hr (by simp [h])

/-! ### The loss of a role -/

theorem QueueEntry.loseRole_eq (p : Pair) (queue : List QueueEntry) :
    queue.filterMap (QueueEntry.loseRole p) = queueAfterRoleLoss p queue := by
  refine List.filterMap_congr fun e _ => ?_
  by_cases h : e.isWaiting = true ∧ e.pair = p
  · have waits : e.waitsFor p = true := Bool.and_eq_true_iff.mpr ⟨h.1, decide_eq_true h.2⟩
    exact (if_pos waits).trans (if_pos h).symm
  · have stays : ¬e.waitsFor p = true := fun hw =>
      h ⟨(Bool.and_eq_true_iff.mp hw).1, of_decide_eq_true (Bool.and_eq_true_iff.mp hw).2⟩
    exact (if_neg stays).trans (if_neg h).symm

theorem State.loseRole_queue (s : State) (p : Pair) : (s.loseRole p).queue = queueAfterRoleLoss p s.queue := by
  unfold State.loseRole State.removeWaiting
  rw [State.foldl_keeps (part := State.queue) State.deliver_roleLost_queue]
  show (s.endWaitingSteps p).queue.filterMap _ = _
  rw [State.endWaitingSteps_queue, QueueEntry.loseRole_eq]

/-- No entry of the pair waits any more (R131). -/
theorem queueAfterRoleLoss_not_waiting {p : Pair} {queue : List QueueEntry} {e : QueueEntry}
    (he : e ∈ queueAfterRoleLoss p queue) (hp : e.pair = p) : e.isWaiting = false := by
  obtain ⟨x, -, hx⟩ := List.mem_filterMap.mp he
  split at hx
  · split at hx <;> cases hx
    rfl
  next h =>
    cases hx
    simpa [hp] using h

/-- The ids of the records whose entries wait for the pair (R131). -/
theorem mem_waiting_ids {p : Pair} {queue : List QueueEntry} {id : Nat} :
    id ∈ (queue.filter (·.waitsFor p)).filterMap QueueEntry.faultId ↔
      (queue.any fun e => e.isWaiting && decide (e.pair = p) && decide (e.origin = .fault id)) = true := by
  have named (e : QueueEntry) : e.faultId = some id ↔ e.origin = .fault id := by
    unfold QueueEntry.faultId
    cases e.origin <;> simp
  simp [List.mem_filterMap, QueueEntry.waitsFor, named, and_assoc]

theorem State.loseRole_faults {s : State} (hd : (s.faults.map (·.id)).Nodup) (p : Pair) :
    (s.loseRole p).faults = faultsAfterRoleLoss p s.queue s.faults := by
  have ended := State.endWaitingSteps_faults hd p
  unfold State.loseRole State.removeWaiting
  rw [State.foldl_deliver_faults (by show ((s.endWaitingSteps p).faults.map _).Nodup; rw [ended]; simpa using hd)]
  show endSequences _ (s.endWaitingSteps p).faults = _
  rw [ended, endSequences_endSequences, faultsAfterRoleLoss_eq]
  refine endSequences_congr fun r _ => ?_
  rw [FaultRecord.losesRole_eq, State.endWaitingSteps_queue, Bool.and_comm (r.awaitsEntry)]
  congr 2
  exact Bool.eq_iff_iff.mpr (decide_eq_true_iff.trans mem_waiting_ids)

theorem State.loseRole_flag {s : State} (hd : (s.faults.map (·.id)).Nodup) {p : Pair} {r : FaultRecord}
    (hr : r ∈ s.faults) (hl : r.losesRole p s.queue = true) :
    (((s.loseRole p).port.flags.pairs.get r.pair).get .faultChange) = true := by
  have ended := State.endWaitingSteps_faults hd p
  rw [FaultRecord.losesRole_eq] at hl
  cases hw : r.waitsForQueue p
  · rw [hw, Bool.false_or, Bool.and_eq_true] at hl
    obtain ⟨hawaits, hid⟩ := hl
    unfold State.loseRole State.removeWaiting
    refine State.foldl_deliver_flag ?_ ?_ hawaits (mem_waiting_ids.mpr (by rwa [State.endWaitingSteps_queue]))
    · show ((s.endWaitingSteps p).faults.map _).Nodup
      rw [ended]
      simpa using hd
    · show r ∈ (s.endWaitingSteps p).faults
      rw [ended]
      exact mem_endSequences hr hw
  · exact (State.removeWaiting_kept _ p).flags r.pair .faultChange
      (State.foldl_endSequence_flag (List.mem_filter.mpr ⟨hr, hw⟩) s)

end Sys2Proof.Machine
end

section
/-! SET PAIR MODE (R14 to R17): what leaving a mode ends and keeps, and the three modes in every role state. -/

namespace Sys2Proof.Machine

/-! ### The parts of leaving a mode -/

/-- A pair without a sweep is granted nothing (R69). -/
theorem State.pair_arbitrate_of_no_sweep {s : State} {p : Pair} (h : (s.pair p).sweep = none) :
    s.arbitrate.pair p = s.pair p := by
  rcases s.arbitrate_cases with e | ⟨p', w, _, _, hw, e⟩ <;> rw [e]
  refine State.pair_setPair_other s _ fun hp => ?_
  rw [hp, hw] at h
  cases h

/-- A bank that is no pair's is not granted to a pair without a sweep (R69). -/
theorem State.arbitrate_holder_ne {s : State} {p : Pair} (h : (s.pair p).sweep = none) (hb : s.bank.holder ≠ some p) :
    s.arbitrate.bank.holder ≠ some p := by
  rcases s.arbitrate_cases with e | ⟨p', w, _, _, hw, e⟩ <;> rw [e]
  · exact hb
  · intro hp
    obtain rfl : p' = p := Option.some.inj hp
    rw [hw] at h
    cases h

@[simp] theorem State.arbitrate_queue (s : State) : s.arbitrate.queue = s.queue := by
  rcases s.arbitrate_cases with h | ⟨_, _, _, _, _, h⟩ <;> rw [h]
  rfl

@[simp] theorem State.arbitrate_faults (s : State) : s.arbitrate.faults = s.faults := by
  rcases s.arbitrate_cases with h | ⟨_, _, _, _, _, h⟩ <;> rw [h]
  rfl

/-- The bank once the sweep of a pair has been abandoned: its pass aborted, another pair's kept (R41, R71). -/
def State.bankWithout (s : State) (p : Pair) : Bank :=
  if (s.pair p).sweep.isSome = true ∧ s.bank.holder = some p then .idle else s.bank

/-- An abandoned sweep: the pair's pass aborted and its sweep gone (R71). -/
theorem State.abandonSweep_eq {s : State} {p : Pair} (h : (s.pair p).completionDue = false) :
    s.abandonSweep p = { s.setPair p { s.pair p with sweep := none } with bank := s.bankWithout p } := by
  unfold State.abandonSweep State.bankWithout
  unfold PairState.completionDue at h
  cases hw : (s.pair p).sweep with
  | none =>
    have same : ({ s.pair p with sweep := none } : PairState) = s.pair p := by rw [← hw]
    simp [same]
  | some w =>
    have aborted : (s.abortPass p).modPair p (fun q => { q with sweep := none })
        = { s.setPair p { s.pair p with sweep := none } with
            bank := if s.bank.holder = some p then .idle else s.bank } := by
      rcases s.abortPass_cases p with ⟨hb, e⟩ | ⟨hb, e⟩
      · rw [e, if_neg hb]
        rfl
      · rw [e, if_pos hb]
        rfl
    cases hs : w.stage <;> simp [hw, hs] at h ⊢ <;> exact aborted

/-- What abandoned learning leaves of a pair (R110). -/
def PairState.abandonLearning (q : PairState) (cause : LearnCause) (now : LineTime) : PairState :=
  if q.learn = .idle then q
  else { q with
    records := q.records.map RepeaterRecord.clearLearn
    hold := false
    lastLearn := .abandoned cause q.sweepNumber now
    learn := .idle }

theorem State.pair_abandonLearning_same (s : State) (p : Pair) (cause : LearnCause) :
    (s.abandonLearning p cause).pair p = (s.pair p).abandonLearning cause s.now := by
  unfold PairState.abandonLearning
  rcases s.abandonLearning_cases p cause with ⟨h, e⟩ | ⟨h, e⟩ <;> rw [e]
  · rw [if_pos h]
  · rw [if_neg h, State.pair_setPairFlag, State.pair_setPair_same]

theorem State.pair_abandonLearning_other (s : State) {p p' : Pair} (cause : LearnCause) (h : p' ≠ p) :
    (s.abandonLearning p cause).pair p' = s.pair p' := by
  rcases s.abandonLearning_cases p cause with ⟨_, e⟩ | ⟨_, e⟩ <;> rw [e]
  exact State.pair_setPair_other s _ h

@[simp] theorem State.abandonLearning_bank (s : State) (p : Pair) (c : LearnCause) :
    (s.abandonLearning p c).bank = s.bank := by
  rcases s.abandonLearning_cases p c with ⟨_, e⟩ | ⟨_, e⟩ <;> rw [e]
  rfl

@[simp] theorem State.abandonLearning_queue (s : State) (p : Pair) (c : LearnCause) :
    (s.abandonLearning p c).queue = s.queue := by
  rcases s.abandonLearning_cases p c with ⟨_, e⟩ | ⟨_, e⟩ <;> rw [e]
  rfl

@[simp] theorem State.abandonLearning_faults (s : State) (p : Pair) (c : LearnCause) :
    (s.abandonLearning p c).faults = s.faults := by
  rcases s.abandonLearning_cases p c with ⟨_, e⟩ | ⟨_, e⟩ <;> rw [e]
  rfl

/-! ### Leaving a mode -/

/-- A pair and its pass with the sweep and the learning abandoned: leaving a mode before the role loss (R15, R16). -/
def State.modeEnded (s : State) (p : Pair) : State := (s.abandonSweep p).abandonLearning p .role

/-- What leaving a mode leaves of the pair (R15, R16). -/
def PairState.leftMode (q : PairState) (now : LineTime) : PairState :=
  { ({ q with sweep := none } : PairState).abandonLearning .role now with injected := none, source := none }

section
variable {s : State} {p : Pair} (hd : (s.pair p).completionDue = false)
include hd

theorem State.pair_modeEnded_same :
    (s.modeEnded p).pair p = ({ s.pair p with sweep := none } : PairState).abandonLearning .role s.now := by
  unfold State.modeEnded
  rw [State.pair_abandonLearning_same, (s.abandonSweep_kept p).now, State.abandonSweep_eq hd]
  exact congrArg (PairState.abandonLearning · .role s.now) (State.pair_setPair_same s p _)

theorem State.pair_modeEnded_other {p' : Pair} (h : p' ≠ p) : (s.modeEnded p).pair p' = s.pair p' := by
  unfold State.modeEnded
  rw [State.pair_abandonLearning_other _ _ h, State.abandonSweep_eq hd]
  exact State.pair_setPair_other s _ h

theorem State.modeEnded_bank : (s.modeEnded p).bank = s.bankWithout p := by
  unfold State.modeEnded
  rw [State.abandonLearning_bank, State.abandonSweep_eq hd]

theorem State.modeEnded_queue : (s.modeEnded p).queue = s.queue := by
  unfold State.modeEnded
  rw [State.abandonLearning_queue, State.abandonSweep_eq hd]
  rfl

theorem State.modeEnded_faults : (s.modeEnded p).faults = s.faults := by
  unfold State.modeEnded
  rw [State.abandonLearning_faults, State.abandonSweep_eq hd]
  rfl

end

@[simp] theorem PairState.leftMode_sweep (q : PairState) (now : LineTime) : (q.leftMode now).sweep = none := by
  unfold PairState.leftMode PairState.abandonLearning
  split <;> rfl

/-- A pair that leaves a mode, before the arbiter decides. -/
def State.modeLeft (s : State) (p : Pair) : State :=
  ((s.modeEnded p).loseRole p).modPair p fun q => { q with injected := none, source := none }

theorem State.leaveMode_eq (s : State) (p : Pair) : s.leaveMode p = (s.modeLeft p).arbitrate := rfl

section
variable {s : State} {p : Pair} (hd : (s.pair p).completionDue = false)
include hd

theorem State.pair_modeLeft_same : (s.modeLeft p).pair p = (s.pair p).leftMode s.now := by
  unfold State.modeLeft
  rw [State.pair_modPair_same, (State.loseRole_kept _ p).pair, State.pair_modeEnded_same hd]
  rfl

theorem State.pair_modeLeft_other {p' : Pair} (h : p' ≠ p) : (s.modeLeft p).pair p' = s.pair p' := by
  unfold State.modeLeft
  rw [State.pair_modPair_other _ _ h, (State.loseRole_kept _ p).pair, State.pair_modeEnded_other hd h]

theorem State.modeLeft_bank : (s.modeLeft p).bank = s.bankWithout p := by
  unfold State.modeLeft
  rw [State.modPair_bank, (State.loseRole_kept _ p).bank, State.modeEnded_bank hd]

/-- Leaving a mode leaves the pair without a sweep, learning, injection and synthetic source (R15, R16). -/
theorem State.pair_leaveMode_same : (s.leaveMode p).pair p = (s.pair p).leftMode s.now := by
  have left := State.pair_modeLeft_same hd
  have noSweep : ((s.modeLeft p).pair p).sweep = none := by rw [left, PairState.leftMode_sweep]
  exact (State.pair_arbitrate_of_no_sweep noSweep).trans left

theorem State.pair_leaveMode_other {p' : Pair} (h : p' ≠ p) : PairKept (s.pair p') ((s.leaveMode p).pair p') := by
  have arbitrated := (s.modeLeft p).arbitrate_kept.pair p'
  rwa [State.pair_modeLeft_other hd h] at arbitrated

theorem State.leaveMode_queue : (s.leaveMode p).queue = queueAfterRoleLoss p s.queue := by
  rw [State.leaveMode_eq, State.arbitrate_queue, State.modeLeft, State.modPair_queue, State.loseRole_queue,
    State.modeEnded_queue hd]

theorem State.leaveMode_faults (hn : (s.faults.map (·.id)).Nodup) :
    (s.leaveMode p).faults = faultsAfterRoleLoss p s.queue s.faults := by
  rw [State.leaveMode_eq, State.arbitrate_faults, State.modeLeft, State.modPair_faults,
    State.loseRole_faults (by rwa [State.modeEnded_faults hd]), State.modeEnded_queue hd, State.modeEnded_faults hd]

/-- The sequences that end set FAULT CHANGE (R97, R149). -/
theorem State.leaveMode_faultChange (hn : (s.faults.map (·.id)).Nodup) {r : FaultRecord} (hr : r ∈ s.faults)
    (hl : r.losesRole p s.queue = true) :
    (((s.leaveMode p).port.flags.pairs.get r.pair).get .faultChange) = true := by
  have lost : (((s.modeEnded p).loseRole p).port.flags.pairs.get r.pair).get .faultChange = true :=
    State.loseRole_flag (by rwa [State.modeEnded_faults hd]) (by rwa [State.modeEnded_faults hd])
      (by rwa [State.modeEnded_queue hd])
  exact (State.arbitrate_kept _).flags r.pair .faultChange lost

/-- The pair holds no pass of the bank afterwards (R71). -/
theorem State.leaveMode_holder_ne (hb : s.bank.holder = some p → (s.pair p).sweep.isSome = true) :
    (s.leaveMode p).bank.holder ≠ some p := by
  refine State.arbitrate_holder_ne (s := s.modeLeft p) ?_ ?_
  · rw [State.pair_modeLeft_same hd, PairState.leftMode_sweep]
  · rw [State.modeLeft_bank hd]
    unfold State.bankWithout
    split
    · exact (Option.some_ne_none p).symm
    next h => exact fun hp => h ⟨hb hp, hp⟩

/-- Another pair's pass runs on (R71). -/
theorem State.leaveMode_bank_other {p' : Pair} (hp : p' ≠ p) (hb : s.bank.holder = some p') :
    (s.leaveMode p).bank = s.bank := by
  have ended : (s.modeLeft p).bank = s.bank := by
    rw [State.modeLeft_bank hd]
    exact if_neg fun h => hp (Option.some.inj (hb.symm.trans h.2))
  have busy : (s.modeLeft p).bank ≠ .idle := by
    rw [ended]
    intro h
    rw [h] at hb
    cases hb
  rw [State.leaveMode_eq, State.arbitrate_of_busy busy, ended]

end

/-- A run that leaving a mode abandons sets LEARN DONE (R110). -/
theorem State.leaveMode_learnDone {s : State} {p : Pair} (hl : (s.pair p).learn ≠ .idle) :
    (((s.leaveMode p).port.flags.pairs.get p).get .learnDone) = true := by
  have swept : ((s.abandonSweep p).pair p).learn = (s.pair p).learn := ((s.abandonSweep_kept p).pair p).learn
  have ended : ((s.modeEnded p).port.flags.pairs.get p).get .learnDone = true := by
    unfold State.modeEnded
    rcases (s.abandonSweep p).abandonLearning_cases p .role with ⟨h, _⟩ | ⟨_, e⟩
    · exact absurd (swept ▸ h) hl
    · rw [e]
      exact State.setPairFlag_get_same _ p .learnDone
  have kept : PartKept (s.modeEnded p) (s.leaveMode p) :=
    ((State.loseRole_kept _ p).toPartKept.trans (.setPair _ p _)).trans (State.arbitrate_kept _).toPartKept
  exact kept.flags p .learnDone ended

end Sys2Proof.Machine
end

section
/-! SET PAIR MODE DISABLED, ENABLED and SYNTHETIC in every role state (R14 to R19). -/

namespace Sys2Proof.Machine

/-! ### A reply that joins the queue -/

section
variable (s : State) (typ tag : Byte) (data : List Byte)

@[simp] theorem State.pair_replied (p : Pair) : (s.replied typ tag data).pair p = s.pair p := State.pair_transmit _ p

@[simp] theorem State.replied_bank : (s.replied typ tag data).bank = s.bank := State.transmit_bank _

@[simp] theorem State.replied_faults : (s.replied typ tag data).faults = s.faults := State.transmit_faults _

@[simp] theorem State.replied_flags : (s.replied typ tag data).port.flags = s.port.flags := State.transmit_port_flags _

@[simp] theorem State.replied_replies :
    (s.replied typ tag data).port.replies = s.port.replies ++ [⟨typ, tag, data⟩] := State.transmit_port_replies _

/-- A reply is waiting, so no supervisory-result notice begins (R172). -/
@[simp] theorem State.replied_queue : (s.replied typ tag data).queue = s.queue := by
  unfold State.replied
  rcases State.transmit_cases _ with h | ⟨_, _, _, _, h⟩ | ⟨_, _, _, h⟩ | ⟨_, _, hr, _⟩
  · rw [h]
  · rw [h]
  · rw [h]
  · simp at hr

end

/-- A pair that sends nothing has a silent drive word (R5, R6). -/
theorem State.driveWord_silent {s : State} {p : Pair} (ht : (s.pair p).tone = ⟨.free, []⟩)
    (hp : (s.pair p).probeOn = false) :
    s.driveWord p = ⟨.off, 0, .off⟩ := by simp [State.driveWord, State.toneOut, ht, hp]

/-! ### Rows of SET PAIR MODE -/

section
variable {tag : Byte} {p : Pair} {s t : State} {a : Answer} (hs : s.Ready)
include hs

theorem exec_setDisabled (h : setDisabled p s = (t, a)) :
    exec (.setPairModeDisabled tag (pairByte p)) s = .next (t.replied 0x92 tag (a.status.code :: a.data)) :=
  (exec_answers (r := .setPairMode (pairByte p) 0) hs rfl rfl ((withPair_pairByte p _ s).trans h)).trans rfl

theorem exec_setEnabled (h : setEnabled p s = (t, a)) :
    exec (.setPairModeEnabled tag (pairByte p)) s = .next (t.replied 0x92 tag (a.status.code :: a.data)) :=
  (exec_answers (r := .setPairMode (pairByte p) 1) hs rfl rfl ((withPair_pairByte p _ s).trans h)).trans rfl

theorem exec_setSynthetic (h : setSynthetic p s = (t, a)) :
    exec (.setPairModeSynthetic tag (pairByte p)) s = .next (t.replied 0x92 tag (a.status.code :: a.data)) :=
  (exec_answers (r := .setPairMode (pairByte p) 2) hs rfl rfl ((withPair_pairByte p _ s).trans h)).trans rfl

end

/-! ### A completion that is due (R73) -/

/-- A pair that is not YIELDING keeps its role through a completion and has no sweep after it (R65, R74). -/
theorem State.pair_takeCompletion {s : State} {p : Pair} (hr : (s.pair p).role.name ≠ .yielding) :
    ((s.takeCompletion p).pair p).completionDue = false ∧ ((s.takeCompletion p).pair p).role = (s.pair p).role := by
  rcases s.takeCompletion_cases p with ⟨hd, h⟩ | ⟨w, stamp, _, _, h⟩ <;> rw [h]
  · exact ⟨hd, rfl⟩
  · have role : ((s.stages p w stamp).pair p).role = (s.pair p).role := (s.stages_kept p w stamp).role p
    have quiet : (s.stages p w stamp).leaveBank p
        = (s.stages p w stamp).modPair p fun q => { q with sweep := none } := by
      unfold State.leaveBank State.reportLeftBank
      split
      next h =>
        rw [State.pair_modPair_same] at h
        rw [← role, show ((s.stages p w stamp).pair p).role = _ from h] at hr
        exact absurd rfl hr
      next => rfl
    rw [quiet, State.pair_transmit, State.pair_modPair_same]
    exact ⟨rfl, role⟩

/-! ### DISABLED (R15) -/

theorem setDisabled_refused {p : Pair} {s : State} (h : (s.pair p).role.name = .yielding ∨ s.inFlightOn p = true) :
    setDisabled p s = (s, .refused .wrongState) := by
  unfold setDisabled
  split
  · rfl
  next hr => rw [if_pos (h.resolve_left (by simp [hr, Role.name]))]
  next hy _ =>
    refine if_pos (h.resolve_left fun hn => ?_)
    cases hr : (s.pair p).role <;> simp [hr, Role.name] at hn
    exact hy _ _ _ hr

theorem setDisabled_parked {p : Pair} {s : State} (hr : (s.pair p).role = .parked) (hf : s.inFlightOn p = false) :
    setDisabled p s = (s, .ok []) := by simp [setDisabled, hr, hf]

theorem setDisabled_other {p : Pair} {s : State} (hr : (s.pair p).role ≠ .parked)
    (hy : (s.pair p).role.name ≠ .yielding) (hf : s.inFlightOn p = false) : setDisabled p s = parkOrRefuse p s := by
  unfold setDisabled
  split
  next h => exact absurd (by rw [h]; rfl) hy
  next h => exact absurd h hr
  next => simp [hf]

/-- A pair as a park leaves it (R15). -/
def PairState.parked (q : PairState) (now : LineTime) : PairState :=
  { ({ q with
        role := .parked, lastRole := some ⟨q.role.name, .parked, .host, now⟩, tone := ⟨.free, []⟩, probeOn := false } :
      PairState).leftMode now with
    clock := ⟨0, 0, 0, 0, false⟩, det := ⟨false, 0, 0, false, 0, 0, 0, ⟨false, 0⟩, ⟨false, 0⟩⟩ }

/-- A pair in PARKED and silent, before its mode is left. -/
def State.parkedRole (s : State) (p : Pair) : State := (s.setRole p .parked .host).modPair p PairState.silence

theorem State.pair_parkedRole_same (s : State) (p : Pair) : (s.parkedRole p).pair p =
    { s.pair p with
      role := .parked, lastRole := some ⟨(s.pair p).role.name, .parked, .host, s.now⟩, tone := ⟨.free, []⟩
      probeOn := false } := by
  unfold State.parkedRole
  rw [State.pair_modPair_same, State.pair_setRole_same]
  rfl

theorem State.pair_parkedRole_other (s : State) {p p' : Pair} (h : p' ≠ p) : (s.parkedRole p).pair p' = s.pair p' := by
  unfold State.parkedRole
  rw [State.pair_modPair_other _ _ h, State.pair_setRole_other _ _ _ h]

theorem State.park_eq (s : State) (p : Pair) :
    s.park p = ((s.parkedRole p).leaveMode p).modPair p fun q => { q with clock := .origin, det := .reset } := rfl

section
variable {s : State} {p : Pair} (hd : (s.pair p).completionDue = false)
include hd

theorem State.parkedRole_not_due : ((s.parkedRole p).pair p).completionDue = false := by
  rw [State.pair_parkedRole_same]
  exact hd

theorem State.pair_park_same : (s.park p).pair p = (s.pair p).parked s.now := by
  have now : (s.parkedRole p).now = s.now := rfl
  rw [State.park_eq, State.pair_modPair_same, State.pair_leaveMode_same (State.parkedRole_not_due hd), now,
    State.pair_parkedRole_same]
  rfl

theorem State.pair_park_other {p' : Pair} (h : p' ≠ p) : PairKept (s.pair p') ((s.park p).pair p') := by
  have left := State.pair_leaveMode_other (State.parkedRole_not_due hd) h
  rw [State.park_eq, State.pair_modPair_other _ _ h]
  rwa [State.pair_parkedRole_other _ h] at left

end

/-- Only a pair with a sweep holds a pass of the bank (R69). -/
theorem SweepInv.sweep_isSome {s : State} (h : SweepInv s) {p : Pair} (hb : s.bank.holder = some p) :
    (s.pair p).sweep.isSome = true := by
  have := (h.bank p).mp hb
  unfold PairState.inBank at this
  cases hw : (s.pair p).sweep with
  | some w => rfl
  | none => simp [hw] at this

section
variable {s : State} {p : Pair} (hr : (s.pair p).role ≠ .parked) (hy : (s.pair p).role.name ≠ .yielding)
  (hf : s.inFlightOn p = false)
include hr hy hf

theorem setDisabled_park (hd : (s.pair p).completionDue = false) : setDisabled p s = (s.park p, .ok []) := by
  rw [setDisabled_other hr hy hf, parkOrRefuse, State.takeCompletion_of_not_due hd]
  simp [hf]

/-- A completion that is due is taken in full; then the request is refused for an exchange that this has started on the
pair, or acts on the pair as the completion leaves it (R15, R73). -/
theorem exec_setDisabled_of_due (hs : s.Ready) (tag : Byte) :
    exec (.setPairModeDisabled tag (pairByte p)) s =
      if (s.takeCompletion p).inFlightOn p then .next (((s.takeCompletion p).replan p).replied 0x92 tag [5, 0, 0])
      else exec (.setPairModeDisabled tag (pairByte p)) (s.takeCompletion p) := by
  obtain ⟨notDue, role⟩ := State.pair_takeCompletion hy
  have ready := (s.takeCompletion_kept p).toPartKept.ready hs
  have taken : setDisabled p s = parkOrRefuse p s := setDisabled_other hr hy hf
  unfold parkOrRefuse at taken
  dsimp only at taken
  cases hfu : (s.takeCompletion p).inFlightOn p
  · rw [hfu] at taken
    rw [exec_setDisabled hs taken,
      exec_setDisabled ready (setDisabled_park (by rwa [role]) (by rwa [role]) hfu notDue)]
    rfl
  · rw [hfu] at taken
    rw [exec_setDisabled hs taken]
    rfl

end

/-- What a park leaves of the fields of a pair that it does not name (R15). -/
theorem PairState.parked_kept (q : PairState) (now : LineTime) :
    (q.parked now).config = q.config ∧ (q.parked now).published = q.published ∧ (q.parked now).readout = q.readout
      ∧ (q.parked now).sweepNumber = q.sweepNumber := by
  unfold PairState.parked PairState.leftMode PairState.abandonLearning
  split <;> exact ⟨rfl, rfl, rfl, rfl⟩

/-- What a park writes into a pair (R15). -/
theorem PairState.parked_written (q : PairState) (now : LineTime) :
    (q.parked now).role = .parked ∧ (q.parked now).lastRole = some ⟨q.role.name, .parked, .host, now⟩
      ∧ (q.parked now).tone = ⟨.free, []⟩ ∧ (q.parked now).probeOn = false ∧ (q.parked now).sweep = none
      ∧ (q.parked now).learn = .idle ∧ (q.parked now).hold = (q.hold && decide (q.learn = .idle)) := by
  unfold PairState.parked PairState.leftMode PairState.abandonLearning
  split
  next h => exact ⟨rfl, rfl, rfl, rfl, rfl, h, by simp [show q.learn = .idle from h]⟩
  next h => exact ⟨rfl, rfl, rfl, rfl, rfl, rfl, by simp [show q.learn ≠ .idle from h]⟩

theorem PairState.parked_of_idle {q : PairState} (h : q.learn = .idle) (now : LineTime) :
    (q.parked now).records = q.records ∧ (q.parked now).lastLearn = q.lastLearn := by
  unfold PairState.parked PairState.leftMode PairState.abandonLearning
  rw [if_pos h]
  exact ⟨rfl, rfl⟩

theorem PairState.parked_of_active {q : PairState} (h : q.learn ≠ .idle) (now : LineTime) :
    (q.parked now).records = q.records.map RepeaterRecord.clearLearn
      ∧ (q.parked now).lastLearn = .abandoned .role q.sweepNumber now := by
  unfold PairState.parked PairState.leftMode PairState.abandonLearning
  rw [if_neg h]
  exact ⟨rfl, rfl⟩

/-- Settles O21: the refusals, the completion taken first (`exec_setDisabled_of_due`), and the park (`pair_park_same` and
the lemmas about `leaveMode`). -/
theorem setPairModeDisabled : Obligations.SetPairModeDisabled := by
  intro tag p s hs q
  refine ⟨fun h => exec_setDisabled hs (setDisabled_refused h), fun hr hf => exec_setDisabled hs (setDisabled_parked hr hf),
    fun hr hy hf hd => ?_, fun hr hy hf hd => ?_⟩
  · obtain ⟨notDue, role⟩ := State.pair_takeCompletion (s := s) hy
    exact ⟨notDue, role, exec_setDisabled_of_due hr hy hf hs tag⟩
  · refine ⟨_, exec_setDisabled hs (setDisabled_park hr hy hf hd), ?_⟩
    have notDue := State.parkedRole_not_due hd
    have parked := State.pair_park_same hd
    have kept := (s.park_kept p).toPartKept
    have keptParked : PartKept (s.parkedRole p) (s.park p) :=
      ((s.parkedRole p).leaveMode_kept p).toPartKept.trans (.setPair _ p _)
    obtain ⟨role, lastRole, tone, probeOn, sweep, learn, hold⟩ := PairState.parked_written q s.now
    obtain ⟨config, published, readout, sweepNumber⟩ := PairState.parked_kept q s.now
    have queue : (s.park p).queue = queueAfterRoleLoss p s.queue := State.leaveMode_queue notDue
    simp only [State.pair_replied, State.replied_bank, State.replied_faults, State.replied_flags, State.replied_queue,
      State.replied_replies, parked]
    refine ⟨by rw [kept.replies]; rfl, ?_, role, lastRole, tone, ?_, rfl, rfl, rfl, learn, hold, sweep, config, published,
      readout, sweepNumber, fun hl => PairState.parked_of_idle hl _, fun hl => ?_, rfl, fun hi => ?_, fun p' hp hb => ?_,
      queue, fun hi => ⟨?_, fun r hm hl => ?_⟩, fun e he hp => ?_, fun p' hp => ?_⟩
    · exact keptParked.flags p .roleChange (State.setPairFlag_get_same _ p .roleChange)
    · exact State.driveWord_silent (by rw [State.pair_replied, parked, tone]) (by rw [State.pair_replied, parked, probeOn])
    · obtain ⟨records, lastLearn⟩ := PairState.parked_of_active hl s.now
      refine ⟨lastLearn, State.leaveMode_learnDone (s := s.parkedRole p) ?_, records⟩
      rw [State.pair_parkedRole_same]
      exact hl
    · refine State.leaveMode_holder_ne notDue fun hb => ?_
      show ((s.parkedRole p).pair p).sweep.isSome = true
      rw [State.pair_parkedRole_same]
      exact hi.sweep_isSome hb
    · exact State.leaveMode_bank_other notDue hp hb
    · exact State.leaveMode_faults notDue hi.distinct
    · exact State.leaveMode_faultChange notDue hi.distinct hm hl
    · exact queueAfterRoleLoss_not_waiting (queue ▸ he) hp
    · exact State.pair_park_other hd hp

/-! ### ENABLED (R16) -/

theorem setEnabled_parked {p : Pair} {s : State} (hr : (s.pair p).role = .parked) : setEnabled p s =
    ((s.setPair p { s.pair p with
        role := .listen, lastRole := some ⟨.parked, .listen, .host, s.now⟩, clock := ⟨0, 0, 0, 0, false⟩,
        det := ⟨false, 0, 0, false, 0, 0, 0, ⟨false, 0⟩, ⟨false, 0⟩⟩ }).setPairFlag p .roleChange, .ok []) := by
  have entered : (s.setRole p .listen .host).modPair p (fun q => { q with clock := .origin, det := .reset }) =
      (s.modPair p fun q => { q with
        role := .listen, lastRole := some ⟨q.role.name, .listen, .host, s.now⟩, clock := .origin
        det := .reset }).setPairFlag p .roleChange := by
    unfold State.setRole
    rw [State.setPairFlag_modPair, State.modPair_modPair]
    rfl
  unfold setEnabled
  rw [hr]
  dsimp only
  rw [entered]
  unfold State.modPair
  dsimp only
  rw [hr]
  rfl

theorem setEnabled_synthetic {p : Pair} {s : State} (hr : (s.pair p).role = .synthetic) :
    setEnabled p s = (((s.takeCompletion p).setRole p .listen .host).leaveMode p, .ok []) := by
  unfold setEnabled
  rw [hr]

theorem setEnabled_other {p : Pair} {s : State} (h1 : (s.pair p).role ≠ .parked) (h2 : (s.pair p).role ≠ .synthetic) :
    setEnabled p s = (s, .ok []) := by
  unfold setEnabled
  split
  next h => exact absurd h h1
  next h => exact absurd h h2
  next => rfl

/-- A pair that leaves LOCAL for LISTEN (R16). -/
theorem PairState.leftMode_kept (q : PairState) (now : LineTime) :
    (q.leftMode now).role = q.role ∧ (q.leftMode now).lastRole = q.lastRole ∧ (q.leftMode now).injected = none
      ∧ (q.leftMode now).source = none ∧ (q.leftMode now).learn = .idle ∧ (q.leftMode now).clock = q.clock
      ∧ (q.leftMode now).det = q.det := by
  unfold PairState.leftMode PairState.abandonLearning
  split
  next h => exact ⟨rfl, rfl, rfl, rfl, h, rfl, rfl⟩
  next => exact ⟨rfl, rfl, rfl, rfl, rfl, rfl, rfl⟩

/-! ### SYNTHETIC (R17) -/

/-- A pair as it enters LOCAL, before Sweep Control considers it (R17, R19). -/
def PairState.synthetic (q : PairState) (now : LineTime) : PairState :=
  let entered : PairState := { q with role := .synthetic, lastRole := some ⟨q.role.name, .synthetic, .host, now⟩ }
  if entered.atBoundary then entered.beginChip else entered

/-- The entry into LOCAL, up to what a plan and the arbiter do (R17, R66). -/
theorem State.pair_enterSynthetic_same (s : State) (p : Pair) :
    PairKept ((s.pair p).synthetic s.now) ((s.enterSynthetic p).pair p) := by
  have considered := (State.considerSweep_kept ((s.setRole p .synthetic .host).modPair p fun q =>
    if q.atBoundary then q.beginChip else q) p).pair p
  rw [State.pair_modPair_same, State.pair_setRole_same] at considered
  exact considered

theorem State.pair_enterSynthetic_other (s : State) {p p' : Pair} (h : p' ≠ p) :
    PairKept (s.pair p') ((s.enterSynthetic p).pair p') := by
  have considered := (State.considerSweep_kept ((s.setRole p .synthetic .host).modPair p fun q =>
    if q.atBoundary then q.beginChip else q) p).pair p'
  rw [State.pair_modPair_other _ _ h, State.pair_setRole_other _ _ _ h] at considered
  exact considered

theorem PairState.synthetic_kept (q : PairState) (now : LineTime) :
    (q.synthetic now).role = .synthetic ∧ (q.synthetic now).lastRole = some ⟨q.role.name, .synthetic, .host, now⟩
      ∧ (q.synthetic now).clock = q.clock ∧ (q.synthetic now).records = q.records
      ∧ (q.synthetic now).config = q.config := by
  unfold PairState.synthetic
  dsimp only
  split <;> exact ⟨rfl, rfl, rfl, rfl, rfl⟩

/-- A synthetic sample is a 12-bit signed number (R28). -/
theorem PairState.echoSample_range (q : PairState) (position : Nat) :
    -2048 ≤ q.echoSample position ∧ q.echoSample position ≤ 2047 := by
  unfold PairState.echoSample clampInt
  omega

/-- The chip that begins at the entry is synthetic (R17). -/
theorem PairState.synthetic_source {q : PairState} (now : LineTime) (hc : q.clock.chipCycles = 0)
    (hd : q.clock.periodDue = false) : ∃ x, (q.synthetic now).source = some x ∧ -2048 ≤ x ∧ x ≤ 2047 := by
  unfold PairState.synthetic
  dsimp only
  rw [if_pos (by simp [PairState.atBoundary, Role.name, hc, hd])]
  exact ⟨_, rfl, PairState.echoSample_range _ _⟩

/-- Entering LOCAL from a state whose chip clock stands as the request leaves it (R17). -/
theorem exec_setSynthetic_enters {tag : Byte} {p : Pair} {s u : State} (hs : s.Ready)
    (h : setSynthetic p s = (u.enterSynthetic p, .ok [])) :
    ∃ t, exec (.setPairModeSynthetic tag (pairByte p)) s = .next t
      ∧ t.port.replies = u.port.replies ++ [⟨0x92, tag, [0]⟩] ∧ (t.pair p).role = .synthetic
      ∧ (t.pair p).lastRole = some ⟨(u.pair p).role.name, .synthetic, .host, u.now⟩
      ∧ (t.pair p).clock = (u.pair p).clock
      ∧ (t.pair p).records = (u.pair p).records ∧ (t.pair p).config = (u.pair p).config
      ∧ ((t.pair p).clock.chipCycles = 0 → (t.pair p).clock.periodDue = false →
          ∃ x, (t.pair p).source = some x ∧ -2048 ≤ x ∧ x ≤ 2047)
      ∧ ∀ p' : Pair, p' ≠ p → PairKept (u.pair p') (t.pair p') := by
  refine ⟨_, exec_setSynthetic hs h, ?_⟩
  have own := u.pair_enterSynthetic_same p
  obtain ⟨role, lastRole, clock, records, config⟩ := (u.pair p).synthetic_kept u.now
  simp only [State.pair_replied, State.replied_replies]
  refine ⟨by rw [(u.enterSynthetic_kept p).replies]; rfl, own.role.trans role, own.lastRole.trans lastRole,
    own.clock.trans clock, own.records.trans records, own.config.trans config, fun hc hd => ?_,
    fun p' hp => u.pair_enterSynthetic_other hp⟩
  rw [own.clock, clock] at hc hd
  rw [own.source]
  exact PairState.synthetic_source _ hc hd

/-- Settles O22: the entries into LISTEN and LOCAL, each by what it makes of its pair, and the role states in which nothing
changes or the request is refused. -/
theorem setPairModeEnabledAndSynthetic : Obligations.SetPairModeEnabledAndSynthetic := by
  intro tag p s hs q
  refine ⟨fun hr => exec_setEnabled hs (setEnabled_parked hr), fun hr _ => ?_, fun hr hd => ?_, fun hr => ?_, fun hr => ?_,
    fun h1 h2 => ?_⟩
  · obtain ⟨notDue, role⟩ := State.pair_takeCompletion (s := s) (p := p) (by rw [show (s.pair p).role = _ from hr]; decide)
    have inLocal : ((s.takeCompletion p).pair p).role = .synthetic := role.trans hr
    have ready := (s.takeCompletion_kept p).toPartKept.ready hs
    refine ⟨notDue, inLocal, ?_⟩
    rw [exec_setEnabled hs (setEnabled_synthetic hr), exec_setEnabled ready (setEnabled_synthetic inLocal),
      State.takeCompletion_of_not_due notDue]
  · have entered := setEnabled_synthetic hr
    rw [State.takeCompletion_of_not_due hd] at entered
    refine ⟨_, exec_setEnabled hs entered, ?_⟩
    have pair := s.pair_setRole_same p .listen .host
    have notDue : ((s.setRole p .listen .host).pair p).completionDue = false := by
      rw [pair]
      exact hd
    have left := State.pair_leaveMode_same notDue
    rw [pair] at left
    obtain ⟨role, lastRole, injected, source, learn, clock, det⟩ := PairState.leftMode_kept
      { s.pair p with role := .listen, lastRole := some ⟨(s.pair p).role.name, .listen, .host, s.now⟩ } s.now
    simp only [State.pair_replied, State.replied_replies, State.replied_bank, State.replied_queue, left]
    refine ⟨?_, role, ?_, injected, source, learn, PairState.leftMode_sweep _ _, fun hi => ?_, clock, det, fun e he hp => ?_,
      fun p' hp => ?_⟩
    · rw [((s.setRole_kept p .listen .host).trans (State.leaveMode_kept _ p)).replies]
      rfl
    · refine lastRole.trans ?_
      rw [show (s.pair p).role = _ from hr]
      rfl
    · refine State.leaveMode_holder_ne notDue fun hb => ?_
      rw [pair]
      exact hi.sweep_isSome hb
    · exact queueAfterRoleLoss_not_waiting (State.leaveMode_queue notDue ▸ he) hp
    · have other := State.pair_leaveMode_other notDue hp
      rwa [State.pair_setRole_other _ _ _ hp] at other
  · have other : (s.pair p).role ≠ .parked ∧ (s.pair p).role ≠ .synthetic := by
      constructor <;> rintro h <;> simp [q, h, Role.name] at hr
    exact exec_setEnabled hs (setEnabled_other other.1 other.2)
  · rcases hr with hr | hr
    · have enters : setSynthetic p s =
          ((s.modPair p fun q => { q with clock := .origin, det := .reset }).enterSynthetic p, .ok []) := by
        unfold setSynthetic
        rw [show (s.pair p).role = _ from hr]
      obtain ⟨t, run, replies, role, lastRole, clock, records, config, source, other⟩ :=
        exec_setSynthetic_enters (tag := tag) hs enters
      rw [State.pair_modPair_same] at lastRole clock records config
      refine ⟨t, run, replies, role, lastRole, clock.trans (if_pos hr).symm, records, config, source, fun p' hp => ?_⟩
      rw [← State.pair_modPair_other s _ hp]
      exact other p' hp
    · have enters : setSynthetic p s = (s.enterSynthetic p, .ok []) := by
        unfold setSynthetic
        rw [show (s.pair p).role = _ from hr]
      obtain ⟨t, run, replies, role, lastRole, clock, records, config, source, other⟩ :=
        exec_setSynthetic_enters (tag := tag) hs enters
      have running : q.role ≠ .parked := by simp [hr]
      exact ⟨t, run, replies, role, lastRole, clock.trans (if_neg running).symm, records, config, source, other⟩
  · have refused : setSynthetic p s = (s, .refused .wrongState) := by
      unfold setSynthetic
      split
      next h => exact absurd h h1
      next h => exact absurd h h2
      next => rfl
    exact exec_setSynthetic hs refused

end Sys2Proof.Machine
end

section
/-! INJECT FAULT and the synthetic sample (R28 to R31), and the measurement of a window (R32, R37 to R39). -/

namespace Sys2Proof.Machine

/-! ### INJECT FAULT (R30) -/

theorem exec_injectFault {tag b first : Byte} {factor : Half} {s t : State} {a : Answer} (hs : s.Ready)
    (h : ownInjectFault b first factor s = (t, a)) :
    exec (.injectFault tag b first factor) s = .next (t.replied 0x93 tag (a.status.code :: a.data)) :=
  (exec_answers (r := .injectFault b first factor) hs rfl rfl h).trans rfl

section
variable {p : Pair} {s : State} {first : Byte} {factor : Half}

theorem ownInjectFault_wrongState (hr : (s.pair p).role ≠ .synthetic) :
    ownInjectFault (pairByte p) first factor s = (s, .refused .wrongState) := by
  unfold ownInjectFault
  rw [withPair_pairByte]
  exact if_pos (mt Role.name_eq_synthetic.mp hr)

variable (hr : (s.pair p).role = .synthetic)
include hr

theorem ownInjectFault_badValue (hf : 1023 < factor.toNat) :
    ownInjectFault (pairByte p) first factor s = (s, .refused .badValue) := by
  unfold ownInjectFault
  rw [withPair_pairByte]
  dsimp only
  rw [if_neg (not_not.mpr (Role.name_eq_synthetic.mpr hr)), if_pos hf]

theorem ownInjectFault_notFound (hf : factor.toNat ≤ 1023) (hi : (s.pair p).records.length < first.toNat) :
    ownInjectFault (pairByte p) first factor s = (s, .refused .notFound) := by
  unfold ownInjectFault
  rw [withPair_pairByte]
  dsimp only
  rw [if_neg (not_not.mpr (Role.name_eq_synthetic.mpr hr)), if_neg (Nat.not_lt.mpr hf), if_pos hi]

/-- The checks have passed: the injection is removed with f = 0, and set or replaced otherwise (R30, R31). -/
theorem ownInjectFault_taken (hf : factor.toNat ≤ 1023) (hi : first.toNat ≤ (s.pair p).records.length)
    {i : Option Injection} (h : (if first.toNat = 0 then none else some ⟨first.toNat, factor.toNat⟩) = i) :
    ownInjectFault (pairByte p) first factor s
      = (s.setPair p { s.pair p with injected := i }, .ok (encodeInjection i)) := by
  subst h
  unfold ownInjectFault
  rw [withPair_pairByte]
  dsimp only
  rw [if_neg (not_not.mpr (Role.name_eq_synthetic.mpr hr)), if_neg (Nat.not_lt.mpr hf), if_neg (Nat.not_lt.mpr hi)]

end

theorem encodeInjection_some (first : Byte) (factor : Half) :
    encodeInjection (some ⟨first.toNat, factor.toNat⟩) = first :: be16 factor := by
  simp [encodeInjection, u8, u16]

/-! ### The synthetic sample (R28, R29) -/

/-- Rounding a quotient by an even number half up adds half the divisor. -/
theorem roundHalfUp_two_mul (n m : Nat) : roundHalfUp n (2 * m) = (n + m) / (2 * m) := by
  unfold roundHalfUp
  rw [← Nat.mul_add, Nat.mul_div_mul_left _ _ Nat.two_pos]

/-- An echo is B / 256, or B x q / 262144 where the injection covers the record, rounded half up (R28, R31). -/
theorem echoAmplitude_eq (injected : Option Injection) (r : RepeaterRecord) :
    (echoAmplitude injected r : Int) = match injected with
      | none => ((r.baseline : Int) + 128) / 256
      | some i =>
        if r.index < i.first then ((r.baseline : Int) + 128) / 256 else (r.baseline * i.factor + 131072) / 262144 := by
  have plain : roundHalfUp r.baseline 256 = (r.baseline + 128) / 256 := roundHalfUp_two_mul _ 128
  cases injected with
  | none => exact congrArg Nat.cast plain
  | some i =>
    unfold echoAmplitude
    dsimp only
    by_cases h : r.index < i.first
    · rw [if_pos h, if_neg (Nat.not_le.mpr h), plain]
      rfl
    · rw [if_neg h, if_pos (Nat.not_lt.mp h)]
      exact congrArg Nat.cast (roundHalfUp_two_mul _ 131072)

/-- Settles O23: the checks in their order (`ownInjectFault_wrongState` to `ownInjectFault_taken`), and the echo of a
record in the sample (`echoAmplitude_eq`). -/
theorem injectFaultSetsInjection : Obligations.InjectFaultSetsInjection := by
  refine ⟨fun tag b first factor s hs hb => ?_, fun q position => ?_, fun q hr => ?_, fun tag first factor p s hs => ?_⟩
  · exact exec_injectFault (a := .refused .badValue) hs (withPair_bad hb _ s)
  · unfold PairState.echoSample
    simp only [echoAmplitude_eq]
    rfl
  · exact if_pos (Role.name_eq_synthetic.mpr hr)
  refine ⟨fun hr => ?_, fun hr hf => ?_, fun hr hf hi => ?_, fun hr hf h0 => ?_, fun hr hf h0 hi => ?_⟩
  · exact exec_injectFault hs (ownInjectFault_wrongState hr)
  · exact exec_injectFault hs (ownInjectFault_badValue hr hf)
  · exact exec_injectFault hs (ownInjectFault_notFound hr hf hi)
  · subst h0
    exact exec_injectFault hs (ownInjectFault_taken hr hf (Nat.zero_le _) rfl)
  · have named : first.toNat ≠ 0 := fun h => h0 (BitVec.eq_of_toNat_eq h)
    rw [exec_injectFault hs (ownInjectFault_taken hr hf hi (if_neg named))]
    dsimp only [Answer.ok]
    rw [encodeInjection_some]
    rfl

/-! ### The peak of a window (R38) -/

/-- A place and an amplitude are the first of the largest of a list of bins. -/
structure IsFirstPeak (bins : List BinResult) (best : Nat × Int) : Prop where
  bin : ∃ b, bins[best.1]? = some b ∧ b.amplitude = best.2
  largest : ∀ (i : Nat) (b : BinResult), bins[i]? = some b → b.amplitude ≤ best.2
  first : ∀ (i : Nat) (b : BinResult), i < best.1 → bins[i]? = some b → b.amplitude < best.2

/-- One more bin is the peak only where it exceeds the best so far. -/
theorem IsFirstPeak.append {seen : List BinResult} {best : Nat × Int} (h : IsFirstPeak seen best) (b : BinResult) :
    IsFirstPeak (seen ++ [b]) (if b.amplitude > best.2 then (seen.length, b.amplitude) else best) := by
  obtain ⟨⟨x, hx, hxa⟩, largest, first⟩ := h
  have cases {i : Nat} {y : BinResult} (hy : (seen ++ [b])[i]? = some y) :
      seen[i]? = some y ∨ (i = seen.length ∧ y = b) := by
    rcases Nat.lt_trichotomy i seen.length with hi | rfl | hi
    · exact .inl (by rwa [List.getElem?_append_left hi] at hy)
    · exact .inr ⟨rfl, by simpa using hy.symm⟩
    · rw [List.getElem?_eq_none (by simp; omega)] at hy
      cases hy
  split
  next exceeds =>
    refine ⟨⟨b, by simp, rfl⟩, fun i y hy => ?_, fun i y hi hy => ?_⟩
    · rcases cases hy with hy | ⟨_, rfl⟩
      · exact (largest i y hy).trans exceeds.le
      · exact le_rfl
    · rw [List.getElem?_append_left hi] at hy
      exact (largest i y hy).trans_lt exceeds
  next stays =>
    have inSeen : best.1 < seen.length := (List.getElem?_eq_some_iff.mp hx).1
    refine ⟨⟨x, by rwa [List.getElem?_append_left inSeen], hxa⟩, fun i y hy => ?_, fun i y hi hy => ?_⟩
    · rcases cases hy with hy | ⟨_, rfl⟩
      · exact largest i y hy
      · exact not_lt.mp stays
    · rw [List.getElem?_append_left (hi.trans inSeen)] at hy
      exact first i y hi hy

theorem peakFrom_isFirstPeak {seen : List BinResult} {best : Nat × Int} (h : IsFirstPeak seen best)
    (rest : List BinResult) : IsFirstPeak (seen ++ rest) (peakFrom seen.length best rest) := by
  induction rest generalizing seen best with
  | nil => simpa [peakFrom] using h
  | cons b rest ih =>
    have scanned := ih (h.append b)
    rwa [List.append_assoc, List.length_append] at scanned

theorem peakOf_isFirstPeak {bins : List BinResult} (h : bins ≠ []) : IsFirstPeak bins (peakOf bins) := by
  cases bins with
  | nil => exact absurd rfl h
  | cons b rest =>
    refine peakFrom_isFirstPeak (seen := [b]) ⟨⟨b, rfl, rfl⟩, fun i y hy => ?_, fun i y hi _ => ?_⟩ rest
    on_goal 2 => exact absurd hi (Nat.not_lt_zero i)
    obtain ⟨-, rfl⟩ := List.getElem?_eq_some_iff.mp hy
    simp

/-! ### The amplitude of a bin (R37) -/

/-- Rounding to nearest with ties away from zero: the sign of the quotient, and its magnitude to the nearest unit. -/
theorem roundTiesAway_spec (x : Int) {n : Nat} (hn : 1 ≤ n) :
    0 ≤ roundTiesAway x n * x
      ∧ 2 * n * (roundTiesAway x n).natAbs ≤ 2 * x.natAbs + n
      ∧ 2 * x.natAbs + n < 2 * n * (roundTiesAway x n).natAbs + 2 * n := by
  have magnitude : (roundTiesAway x n).natAbs = (2 * x.natAbs + n) / (2 * n) := by
    unfold roundTiesAway
    split
    · rw [Int.natAbs_neg, Int.natAbs_natCast]
    · rw [Int.natAbs_natCast]
  rw [magnitude]
  refine ⟨?_, Nat.mul_div_le _ _, ?_⟩
  · unfold roundTiesAway
    dsimp only
    split
    next h => exact mul_nonneg_of_nonpos_of_nonpos (neg_nonpos.mpr (Int.natCast_nonneg _)) h.le
    next h => exact mul_nonneg (Int.natCast_nonneg _) (not_lt.mp h)
  · have := Nat.lt_mul_div_succ (2 * x.natAbs + n) (b := 2 * n) (by omega)
    rwa [Nat.mul_add, Nat.mul_one] at this

/-- The clamp to 16 bits changes a value outside them alone. -/
theorem clampInt_ne_iff (a : Int) : clampInt (-32768) 32767 a ≠ a ↔ a < -32768 ∨ 32767 < a := by
  unfold clampInt
  omega

/-! ### The measurement (R38, R39) -/

theorem validityOf_overrange {bins : List BinResult} (h : ∃ x ∈ bins, x.saturated = true ∨ x.clipped = true)
    (disturbed : Bool) : validityOf disturbed bins = .overrange := if_pos (by simpa using h)

theorem validityOf_of_unmarked {bins : List BinResult} (h : ∀ x ∈ bins, x.saturated = false ∧ x.clipped = false)
    (disturbed : Bool) : validityOf disturbed bins = if disturbed then .disturbed else .valid := if_neg (by simpa using h)

/-- Settles O49: a bin is normalized by `roundTiesAway_spec`, the peak is found by `peakOf_isFirstPeak`. -/
theorem windowIsMeasured : Obligations.WindowIsMeasured := by
  refine ⟨fun n w hn hw => ?_, fun w hw => ⟨rfl, by simp [Window.load], fun i hi => ?_⟩⟩
  · obtain ⟨⟨x, hx, hxa⟩, largest, first⟩ := peakOf_isFirstPeak (bins := w.bins.map (Bin.normalize n)) (by simpa using hw)
    refine ⟨rfl, rfl, by simp [BankWindow.measure], fun i b hb => ?_, ⟨_, x, hx, hxa, rfl, largest, first⟩,
      fun h => validityOf_overrange h _, fun h => validityOf_of_unmarked h _⟩
    obtain ⟨sign, low, high⟩ := roundTiesAway_spec (b.sum * 256) hn
    have size : 2 * (b.sum * 256).natAbs = 512 * b.sum.natAbs := by omega
    rw [size] at low high
    refine ⟨roundTiesAway (b.sum * 256) n, b.normalize n, by simp [BankWindow.measure, hb], by linarith, low, high, rfl,
      rfl, ?_⟩
    simp [Bin.normalize, clampInt_ne_iff]
  · have lag : w.centre + i - w.halfWidth = w.centre - w.halfWidth + i := by omega
    simp [Window.load, hi, lag]

end Sys2Proof.Machine
end

section
/-! RETURN SAMPLE (R2, R18 to R21, R34, R35, R124) and FAR ACTIVITY BLOCK (R23, R24, R155, R163). -/

namespace Sys2Proof.Machine

/-! ### The sample reaches the pair, the bank and the reply bit -/

theorem PairState.sample_eq (q : PairState) (strobe : Option (BitVec 12)) :
    q.sample strobe = q.source.getD ((strobe.map (·.toInt)).getD 0) := by
  unfold PairState.sample
  cases q.source <;> cases strobe <;> rfl

/-- The entry in flight once a chip with a sample has reached its reply bit, where it is the pair's (R124). -/
def State.queueSampled (s : State) (p : Pair) (x : Int) : List QueueEntry :=
  if s.inFlightOn p then
    modFirst QueueEntry.isInFlight (·.takeChip (s.pair p).config.order (s.pair p).clock.chip x) s.queue
  else s.queue

/-- A pair whose detectors have taken a sample (R20, R21, R23). -/
def PairState.judged (q : PairState) (x : Int) : PairState := { q with det := q.det.take q.config.returnFloor x }

/-- What the end of a chip with a sample makes of its pair, of the bank and of the queue (R18 to R21, R34, R124). -/
def State.sampled (s : State) (p : Pair) (x : Int) : State :=
  { s.setPair p ((s.pair p).judged x).endChip with
    bank := s.bank.takeChip p (s.pair p).config.order (s.pair p).clock.chip x
    queue := s.queueSampled p x }

theorem State.pair_sampled_same (s : State) (p : Pair) (x : Int) :
    (s.sampled p x).pair p = ((s.pair p).judged x).endChip := State.pair_setPair_same s p _

theorem State.pair_sampled_other (s : State) {p p' : Pair} (x : Int) (h : p' ≠ p) :
    (s.sampled p x).pair p' = s.pair p' := State.pair_setPair_other s _ h

theorem exec_returnSample {s : State} {p : Pair} (hs : s.inReset = false) (hr : (s.pair p).role ≠ .parked)
    (hb : s.boundaryStepDue p = false) (strobe : Option (BitVec 12)) :
    exec (.returnSample p strobe) s = .next (s.sampled p ((s.pair p).sample strobe)).transmit := by
  refine (live_running hs (·.returnSample p strobe)).trans ?_
  unfold State.returnSample State.sampled State.queueSampled
  dsimp only
  rw [if_neg (by simp [Role.name_eq_parked, hr, hb])]
  split <;> rfl

/-- No reply bit of the pair waits to be judged when no step of the boundary is due. -/
theorem State.replyBitDue_of_no_step {s : State} {p : Pair} (h : s.boundaryStepDue p = false) :
    s.replyBitDue p = false := by
  simp only [State.boundaryStepDue, Bool.or_eq_false_iff] at h
  exact h.2

/-! ### The end of a chip (R2, R5, R28) -/

@[simp] theorem PairState.endChip_det (q : PairState) : q.endChip.det = q.det := by
  unfold PairState.endChip
  split <;> rfl

/-- The end of a chip writes the detectors, the chip clock, the synthetic sample and the chip field. -/
theorem PairState.endChip_judged (q : PairState) (x : Int) : (q.judged x).endChip = { q with
    det := (q.judged x).endChip.det, clock := (q.judged x).endChip.clock, source := (q.judged x).endChip.source
    probeOn := (q.judged x).endChip.probeOn } := by
  unfold PairState.endChip
  split <;> rfl

theorem PairState.endChip_inside {q : PairState} (h : q.clock.chip + 1 < 2 ^ q.config.order - 1) : q.endChip =
    ({ q with clock := { q.clock with chip := q.clock.chip + 1, chipCycles := 0 } } : PairState).beginChip := if_pos h

theorem PairState.endChip_last {q : PairState} (h : 2 ^ q.config.order - 1 ≤ q.clock.chip + 1) :
    q.endChip = { q with clock := { q.clock with chipCycles := 0, periodDue := true } } := if_neg (Nat.not_lt.mpr h)

/-! ### The bank (R33, R34) -/

theorem Bank.takeChip_running {l : BankLoad} {done : Nat} {p : Pair} (hp : l.pair = p) (hd : done < l.periods)
    (order position : Nat) (x : Int) :
    (Bank.running l done).takeChip p order position x = .running (l.addChip order position x) done := if_pos ⟨hp, hd⟩

theorem Bank.takeChip_of_not_runs {b : Bank} {p : Pair} (h : b.runs p = false) (order position : Nat) (x : Int) :
    b.takeChip p order position x = b := by
  cases b with
  | running l done => exact if_neg fun hl => of_decide_eq_false h hl.1
  | _ => rfl

/-! ### The queue -/

/-- An element that does not fit keeps its place when the first that fits is changed. -/
theorem modFirst_keeps_place {α : Type} {fits : α → Bool} (f : α → α) (before : List α) {x : α} (after : List α)
    (hx : fits x = false) : ∃ before' after', before'.length = before.length ∧ after'.length = after.length
      ∧ modFirst fits f (before ++ x :: after) = before' ++ x :: after' := by
  induction before with
  | nil => exact ⟨[], modFirst fits f after, rfl, length_modFirst .., by simp [modFirst, hx]⟩
  | cons y ys ih =>
    obtain ⟨before', after', hb, ha, e⟩ := ih
    rw [List.cons_append, modFirst]
    split
    · exact ⟨f y :: ys, after, rfl, rfl, rfl⟩
    · exact ⟨y :: before', after', by simp [hb], ha, by rw [e]; rfl⟩

/-- The transmitter's choice leaves an entry that no notice waits for where it stands (R172). -/
theorem State.transmit_keeps_place {s : State} {before after : List QueueEntry} {e : QueueEntry}
    (hq : s.queue = before ++ e :: after) (he : e.noticeDue = false) :
    ∃ before' after', before'.length = before.length ∧ after'.length = after.length
      ∧ s.transmit.queue = before' ++ e :: after' := by
  rcases s.transmit_cases with h | ⟨_, _, _, _, h⟩ | ⟨_, _, _, h⟩ | ⟨_, _, _, _, _, h⟩ <;> rw [h]
  · exact ⟨before, after, rfl, rfl, hq⟩
  · exact ⟨before, after, rfl, rfl, hq⟩
  · exact ⟨before, after, rfl, rfl, hq⟩
  · dsimp only
    rw [hq]
    exact modFirst_keeps_place _ before after he

theorem QueueEntry.isInFlight_of_state {e : QueueEntry} {c : Captured} {ph : Phase} (h : e.state = .inFlight c ph) :
    e.isInFlight = true := by simp [QueueEntry.isInFlight, h]

theorem QueueEntry.noticeDue_of_inFlight {e : QueueEntry} {c : Captured} {ph : Phase} (h : e.state = .inFlight c ph) :
    e.noticeDue = false := by simp [QueueEntry.noticeDue, h]

theorem State.inFlightOn_of_split {s : State} {before after : List QueueEntry} {e : QueueEntry}
    (hq : s.queue = before ++ e :: after) (he : e.isInFlight = true) : s.inFlightOn e.pair = true := by
  simp [State.inFlightOn, hq, he]

/-- A reply bit that is not full takes the chip at the captured reply lag (R124). -/
theorem QueueEntry.takeChip_receiving {e : QueueEntry} {c : Captured} {y : CapturedTarget} {times : ReplyTimes}
    {bits : List Bool} {sum : Int} {n : Nat} (he : e.state = .inFlight c (.receiving times bits sum n))
    (hy : c.target = some y) (hd : e.bitDue = false) (order position : Nat) (x : Int) :
    e.takeChip order position x = { e with
      state := .inFlight c (.receiving times bits (sum + x * chipBefore order position y.replyLag) (n + 1)) } := by
  have room : n < c.replyBit := by simpa [QueueEntry.bitDue, he] using hd
  simp [QueueEntry.takeChip, he, room, hy, QueueEntry.withPhase_inFlight he]

/-- The reply bit that the pair receives takes the chip where it stands in the queue. -/
theorem State.queueSampled_receiving {s : State} {before after : List QueueEntry} {e : QueueEntry} {c : Captured}
    {y : CapturedTarget} {times : ReplyTimes} {bits : List Bool} {sum : Int} {n : Nat}
    (hq : s.queue = before ++ e :: after) (hb : ∀ z ∈ before, z.isInFlight = false) (hy : c.target = some y)
    (he : e.state = .inFlight c (.receiving times bits sum n)) (hd : s.replyBitDue e.pair = false) (x : Int) :
    s.queueSampled e.pair x = before ++ { e with state := .inFlight c (.receiving times bits
      (sum + x * chipBefore (s.pair e.pair).config.order (s.pair e.pair).clock.chip y.replyLag) (n + 1)) } :: after := by
  have flying := QueueEntry.isInFlight_of_state he
  have waits : e.bitDue = false := by simpa [State.replyBitDue, State.flight_of_split hq hb flying] using hd
  unfold State.queueSampled
  rw [if_pos (State.inFlightOn_of_split hq flying), hq, modFirst_of_split _ after hb flying,
    QueueEntry.takeChip_receiving he hy waits]

/-! ### A bin takes an addition (R35) -/

/-- The three ways in which a bin that is not saturated takes an addition. -/
theorem Bin.add_of_unsaturated {b : Bin} (h : b.saturated = false) (x : Int) :
    (-2 ^ 35 ≤ b.sum + x → b.sum + x ≤ 2 ^ 35 - 1 → b.add x = { b with sum := b.sum + x })
    ∧ (2 ^ 35 - 1 < b.sum + x → b.add x = { b with sum := 2 ^ 35 - 1, saturated := true })
    ∧ (b.sum + x < -2 ^ 35 → b.add x = { b with sum := -2 ^ 35, saturated := true }) := by
  unfold Bin.add sumMax sumMin
  rw [if_neg (by simp [h])]
  refine ⟨fun low high => ?_, fun high => ?_, fun low => ?_⟩
  · rw [if_neg (by omega), if_neg (by omega)]
  · rw [if_pos (by omega)]
    rfl
  · rw [if_neg (by omega), if_pos (by omega)]
    rfl

/-- Settles O41: the chip ends as `State.sampled` says, and the transmitter's choice leaves the reply bit in its place. -/
theorem returnSampleIsTaken : Obligations.ReturnSampleIsTaken := by
  refine ⟨fun p strobe s hs hr hb => ?_, fun b y => ⟨fun h => if_pos h, ?_⟩⟩
  · intro q x
    refine ⟨_, exec_returnSample hs hr hb strobe, ?_⟩
    rw [show (s.pair p).sample strobe = x from PairState.sample_eq q strobe]
    simp only [State.pair_transmit, State.transmit_bank, State.transmit_faults, State.transmit_time,
      State.transmit_port_flags, State.pair_sampled_same]
    refine ⟨?_, fun h => ?_, fun h => ?_, PairState.endChip_judged _ x, fun l done hl hp hd => ?_, fun h => ?_,
      fun before e after c y times bits sum n hq hbefore hp hy he => ?_, fun p' hp' => s.pair_sampled_other x hp', rfl, rfl,
      rfl⟩
    · simp [q, PairState.judged, Detectors.take, strongSample]
    · rw [PairState.endChip_inside (q := q.judged x) h]
      exact ⟨rfl, by simp only [PairState.beginChip, Role.name_eq_synthetic]; rfl, rfl⟩
    · rw [PairState.endChip_last (q := q.judged x) h]
      exact ⟨rfl, rfl, rfl⟩
    · show s.bank.takeChip p _ _ x = _
      rw [hl, Bank.takeChip_running hp hd]
      rfl
    · exact Bank.takeChip_of_not_runs h _ _ x
    · subst hp
      have taken := State.queueSampled_receiving hq hbefore hy he (State.replyBitDue_of_no_step hb) x
      exact State.transmit_keeps_place (s := s.sampled e.pair x) taken (QueueEntry.noticeDue_of_inFlight rfl)
  · exact ⟨fun h => (Bin.add_of_unsaturated h y).1, fun h => (Bin.add_of_unsaturated h y).2.1,
      fun h => (Bin.add_of_unsaturated h y).2.2⟩

/-! ### The far-activity block (R23, R24) -/

/-- The role timers after a block: moved only by a change of the far-activity state (R155, R163). -/
def PairState.roleAfterBlock (q : PairState) : Role :=
  if q.blockChanges then (if q.blockActive then q.role.farBegins else q.role.farEnds) else q.role

theorem exec_farActivityBlock {s : State} {p : Pair} (hs : s.inReset = false) (hr : (s.pair p).role ≠ .parked)
    (hd : 4096 ≤ (s.pair p).det.blockPos) :
    exec (.farActivityBlock p) s = .next
      (s.setPair p { s.pair p with role := (s.pair p).roleAfterBlock, det := (s.pair p).afterBlock }).transmit := by
  have due : (s.pair p).blockDue = true := by
    simp [PairState.blockDue, Role.name_eq_parked, hr, Config.blockChips, hd]
  refine (live_running hs _).trans ?_
  dsimp only
  rw [if_pos due]
  rfl

/-- Far activity concerns the quiet timer of a claim alone (R155). -/
theorem Role.far_claiming (active : Bool) (t : Nat) (quiet : QuietTimer) :
    (if active then (Role.claiming t quiet).farBegins else (Role.claiming t quiet).farEnds)
      = .claiming t (match active, quiet with
          | true, .counting _ => .held
          | false, .held => .counting 0
          | _, x => x) := by
  cases active <;> cases quiet <;> rfl

/-- Far activity concerns the collision timer of a holder alone (R163). -/
theorem Role.far_holder (active : Bool) (c : CollisionTimer) :
    (if active then (Role.holder c).farBegins else (Role.holder c).farEnds)
      = .holder (if active then .counting 0 else .idle) := by cases active <;> rfl

theorem Role.far_other {r : Role} (hc : r.name ≠ .claiming) (hh : r.name ≠ .holder) :
    r.farBegins = r ∧ r.farEnds = r := by
  cases r with
  | claiming => exact absurd rfl hc
  | holder => exact absurd rfl hh
  | _ => exact ⟨rfl, rfl⟩

/-- Settles O44: the detector is `PairState.afterBlock`, the role `PairState.roleAfterBlock`. -/
theorem farActivityIsJudged : Obligations.FarActivityIsJudged := by
  intro p s hs hr hd q active changes
  have after : q.roleAfterBlock = if changes then (if active then q.role.farBegins else q.role.farEnds) else q.role := rfl
  refine ⟨q.roleAfterBlock, exec_farActivityBlock hs hr hd, fun h => ?_, fun t quiet h hq => ?_, fun c h hq => ?_,
    fun hc hh => ?_⟩
  · rw [after, h]
    rfl
  · rw [after, h, hq]
    exact Role.far_claiming active t quiet
  · rw [after, h, hq]
    exact Role.far_holder active c
  · obtain ⟨begins, ends⟩ := Role.far_other hc hh
    rw [after, begins, ends]
    simp

end Sys2Proof.Machine
end

section
/-! What a yield, a completion and the loss of a claim leave to the Return Interface: the configuration, the chip clock, the
inputs and the detectors of every pair (R65, R71 to R74, R157, R161, R162). -/

namespace Sys2Proof.Machine

/-! ### The Return Interface of a pair -/

/-- Two states agree on what the Return Interface of a pair reads and holds. -/
structure ReturnKept (q q' : PairState) : Prop where
  config : q'.config = q.config
  clock : q'.clock = q.clock
  inputs : q'.inputs = q.inputs
  det : q'.det = q.det

/-- The Return Interface of every pair is kept. -/
structure ReturnsKept (s t : State) : Prop where
  pair : ∀ p : Pair, ReturnKept (s.pair p) (t.pair p)

theorem ReturnKept.refl (q : PairState) : ReturnKept q q := ⟨rfl, rfl, rfl, rfl⟩

theorem PairKept.returnKept {q q' : PairState} (h : PairKept q q') : ReturnKept q q' := ⟨h.config, h.clock, h.inputs, h.det⟩

theorem ReturnKept.trans {q q' q'' : PairState} (h : ReturnKept q q') (h' : ReturnKept q' q'') : ReturnKept q q'' :=
  ⟨h'.config.trans h.config, h'.clock.trans h.clock, h'.inputs.trans h.inputs, h'.det.trans h.det⟩

theorem ReturnsKept.refl (s : State) : ReturnsKept s s := ⟨fun _ => .refl _⟩

theorem ReturnsKept.trans {s t u : State} (h : ReturnsKept s t) (h' : ReturnsKept t u) : ReturnsKept s u :=
  ⟨fun p => (h.pair p).trans (h'.pair p)⟩

theorem LineKept.returns {s t : State} (h : LineKept s t) : ReturnsKept s t := ⟨fun p => (h.pair p).returnKept⟩

theorem BookKept.returns {s t : State} (h : BookKept s t) : ReturnsKept s t := h.line.returns

theorem ReturnsKept.setPair {s : State} {p : Pair} {q : PairState} (h : ReturnKept (s.pair p) q) :
    ReturnsKept s (s.setPair p q) := ⟨State.forall_pair_setPair ReturnKept.refl h⟩

theorem ReturnsKept.modPair {s : State} {p : Pair} {f : PairState → PairState}
    (h : ReturnKept (s.pair p) (f (s.pair p))) : ReturnsKept s (s.modPair p f) := .setPair h

theorem State.setRole_returns (s : State) (p : Pair) (r : Role) (c : RoleCause) : ReturnsKept s (s.setRole p r c) :=
  (ReturnsKept.modPair ⟨rfl, rfl, rfl, rfl⟩).trans (State.setPairFlag_kept ..).returns

/-! ### The quiet guard (R161, R162) -/

/-- The end of a yield, or its guard, writes the role, the last role event and the drive of its pair; entries that wait for
it may leave the queue. -/
structure YieldKept (p : Pair) (s t : State) : Prop extends PartKept s t where
  own : ∃ (r : Role) (e : Option RoleEvent) (tone : ToneField) (on : Bool),
    t.pair p = { s.pair p with role := r, lastRole := e, tone := tone, probeOn := on }
  others : ∀ p' : Pair, p' ≠ p → t.pair p' = s.pair p'
  bank : t.bank = s.bank
  pointer : t.pointer = s.pointer
  queue : t.queue = s.queue ∨ t.queue = queueAfterRoleLoss p s.queue

theorem YieldKept.refl (p : Pair) (s : State) : YieldKept p s s :=
  ⟨.refl s, ⟨_, _, _, _, rfl⟩, fun _ _ => rfl, rfl, rfl, .inl rfl⟩

theorem YieldKept.returns {p : Pair} {s t : State} (h : YieldKept p s t) : ReturnsKept s t := by
  refine ⟨fun p' => ?_⟩
  by_cases hp : p' = p
  · obtain ⟨_, _, _, _, own⟩ := h.own
    rw [hp, own]
    exact ⟨rfl, rfl, rfl, rfl⟩
  · rw [h.others p' hp]
    exact .refl _

theorem State.deliver_roleLost_pointer (s : State) (id : Nat) : (s.deliver id .roleLost []).pointer = s.pointer := by
  rw [State.deliver_roleLost]
  split
  · split <;> rfl
  · rfl

@[simp] theorem State.loseRole_pointer (s : State) (p : Pair) : (s.loseRole p).pointer = s.pointer := by
  have steps : (s.endWaitingSteps p).pointer = s.pointer :=
    State.foldl_keeps (f := fun s r => s.endSequence r (.exchange .roleLost) .unresolved) (part := State.pointer)
      (fun _ _ => rfl) _ s
  unfold State.loseRole State.removeWaiting
  rw [State.foldl_keeps (part := State.pointer) State.deliver_roleLost_pointer]
  exact steps

theorem State.pair_finishYield_same (s : State) (p : Pair) : (s.finishYield p).pair p = { s.pair p with
    role := .listen, lastRole := some ⟨(s.pair p).role.name, .listen, .roleYielded, s.now⟩, tone := ⟨.free, []⟩
    probeOn := false } := by
  unfold State.finishYield
  rw [(State.loseRole_kept _ p).pair, State.pair_modPair_same, State.pair_setRole_same]
  rfl

theorem State.pair_finishYield_other (s : State) {p p' : Pair} (h : p' ≠ p) : (s.finishYield p).pair p' = s.pair p' := by
  unfold State.finishYield
  rw [(State.loseRole_kept _ p).pair, State.pair_modPair_other _ _ h, State.pair_setRole_other _ _ _ h]

theorem State.setGuard_yield (s : State) (p : Pair) (m : YieldMode) (pass exchange : Bool) :
    YieldKept p s (s.setGuard p m pass exchange) := by
  have part := (s.setGuard_kept p m pass exchange).toPartKept
  rcases s.setGuard_cases p m pass exchange with ⟨_, h⟩ | ⟨_, _, h⟩ <;> rw [h] at part ⊢
  · exact ⟨part, ⟨_, _, _, _, State.pair_modPair_same s p _⟩, fun p' hp => State.pair_modPair_other s _ hp, rfl, rfl,
      .inl rfl⟩
  · exact ⟨part, ⟨_, _, _, _, s.pair_finishYield_same p⟩, fun p' hp => s.pair_finishYield_other hp,
      (State.loseRole_kept _ p).bank, State.loseRole_pointer _ p, .inr (State.loseRole_queue _ p)⟩

theorem State.reportLeftBank_yield (s : State) (p : Pair) : YieldKept p s (s.reportLeftBank p) := by
  unfold State.reportLeftBank
  split
  · exact s.setGuard_yield ..
  · exact .refl p s

theorem State.reportExchangeEnd_yield (s : State) (p : Pair) : YieldKept p s (s.reportExchangeEnd p) := by
  unfold State.reportExchangeEnd
  split
  · exact s.setGuard_yield ..
  · exact .refl p s

theorem State.reportLeftBank_of_not_yielding {s : State} {p : Pair} (h : (s.pair p).role.name ≠ .yielding) :
    s.reportLeftBank p = s := by
  unfold State.reportLeftBank
  split
  next hr => exact absurd (congrArg Role.name hr) h
  · rfl

theorem State.reportExchangeEnd_of_not_yielding {s : State} {p : Pair} (h : (s.pair p).role.name ≠ .yielding) :
    s.reportExchangeEnd p = s := by
  unfold State.reportExchangeEnd
  split
  next hr => exact absurd (congrArg Role.name hr) h
  · rfl

/-! ### A completion that is taken first (R73) -/

theorem State.abandonLearning_returns (s : State) (p : Pair) (c : LearnCause) : ReturnsKept s (s.abandonLearning p c) := by
  rcases s.abandonLearning_cases p c with ⟨_, h⟩ | ⟨_, h⟩ <;> rw [h]
  · exact .refl s
  · refine .trans ?_ (State.setPairFlag_kept _ p .learnDone).returns
    exact .setPair ⟨rfl, rfl, rfl, rfl⟩

theorem State.finishLearning_returns (s : State) (p : Pair) (n : Nat) (number : BitVec 48) (stamp : LineTime) :
    ReturnsKept s (s.finishLearning p n number stamp) :=
  (ReturnsKept.modPair ⟨rfl, rfl, rfl, rfl⟩).trans (State.setPairFlag_kept ..).returns

theorem State.learningStage_returns (s : State) (p : Pair) (ms : List WindowMeasurement) (number : BitVec 48)
    (stamp : LineTime) : ReturnsKept s (s.learningStage p ms number stamp) := by
  unfold State.learningStage
  split
  · exact .refl s
  · split
    · dsimp only
      split
      · refine .trans ?_ (State.abandonLearning_returns _ p .suspended)
        exact .modPair ⟨rfl, rfl, rfl, rfl⟩
      · exact .modPair ⟨rfl, rfl, rfl, rfl⟩
    · unfold State.countSweep
      dsimp only
      split
      · refine .trans ?_ (State.finishLearning_returns _ p _ number stamp)
        exact .modPair ⟨rfl, rfl, rfl, rfl⟩
      · exact .modPair ⟨rfl, rfl, rfl, rfl⟩

theorem State.stages_returns (s : State) (p : Pair) (w : Sweep) (stamp : LineTime) :
    ReturnsKept s (s.stages p w stamp) := by
  have judged (s : State) (js : List Judged) : ReturnsKept s (s.tableStage p js) :=
    (ReturnsKept.modPair ⟨rfl, rfl, rfl, rfl⟩).trans
      ((State.setPairFlagIf_kept ..).trans (State.setPairFlagIf_kept ..)).returns
  have published (s : State) (b : PublishedSweep) : ReturnsKept s (s.publish p b) :=
    (ReturnsKept.modPair ⟨rfl, rfl, rfl, rfl⟩).trans (State.setPairFlag_kept ..).returns
  have released (s : State) : ReturnsKept s (s.releaseHold p) := .modPair ⟨rfl, rfl, rfl, rfl⟩
  exact ((((judged s _).trans (State.learningStage_returns ..)).trans (State.judgeStages_kept ..).returns).trans
    (published _ _)).trans (released _)

/-- The Return Interface goes on through a completion that is taken (R73). -/
theorem State.takeCompletion_returns (s : State) (p : Pair) : ReturnsKept s (s.takeCompletion p) := by
  rcases s.takeCompletion_cases p with ⟨_, h⟩ | ⟨w, stamp, _, _, h⟩ <;> rw [h]
  · exact .refl s
  · have left (s : State) : ReturnsKept s (s.leaveBank p) :=
      (ReturnsKept.modPair ⟨rfl, rfl, rfl, rfl⟩).trans (State.reportLeftBank_yield _ p).returns
    exact ((s.stages_returns p w stamp).trans (left _)).trans (State.transmit_kept _).returns

/-- A completion that has been taken is due no more, whatever the role (R65, R74). -/
theorem State.takeCompletion_not_due (s : State) (p : Pair) :
    ((s.takeCompletion p).pair p).completionDue = false := by
  rcases s.takeCompletion_cases p with ⟨hd, h⟩ | ⟨w, stamp, _, _, h⟩ <;> rw [h]
  · exact hd
  · have reported := ((s.stages p w stamp).modPair p fun q => { q with sweep := none }).reportLeftBank_yield p
    obtain ⟨_, _, _, _, own⟩ := reported.own
    unfold State.leaveBank
    rw [State.pair_transmit, own, State.pair_modPair_same]
    rfl

/-! ### The beginning of a yield (R71, R72, R161) -/

theorem State.enterYielding_returns (s : State) (p : Pair) (m : YieldMode) (c : RoleCause) :
    ReturnsKept s (s.enterYielding p m c) :=
  ((((s.setRole_returns ..).trans (State.yieldSweep_kept ..).returns).trans (State.abandonLearning_returns ..)).trans
    (State.setGuard_yield ..).returns).trans (State.arbitrate_kept _).returns

/-- After the sweep has been told, a yield waits for a pass exactly when it is GRACEFUL and the pass runs (R72, R161). -/
theorem State.passInBank_yieldSweep {s : State} {p : Pair} (m : YieldMode) (hd : (s.pair p).completionDue = false)
    (hb : s.bank.runs p = true → (s.pair p).passInBank = true) :
    ((s.yieldSweep p m).pair p).passInBank = (decide (m = .graceful) && s.bank.runs p) := by
  have abandoned : ((s.abandonSweep p).pair p).passInBank = false := by
    rw [State.abandonSweep_eq hd]
    exact congrArg PairState.passInBank (State.pair_setPair_same s p _)
  cases m with
  | prompt => exact abandoned
  | graceful =>
    unfold State.yieldSweep State.abandonUnlessRunning
    dsimp only
    cases hr : s.bank.runs p
    · exact abandoned
    · exact hb hr

/-- A pair whose pass runs has its pass in the bank (R65, R69). -/
theorem SweepInv.passInBank_of_runs {s : State} (h : SweepInv s) {p : Pair} (hb : s.bank.runs p = true) :
    (s.pair p).passInBank = true := by
  have holds : s.bank.holder = some p := by
    cases hl : s.bank with
    | running l done =>
      rw [hl] at hb
      exact congrArg some (of_decide_eq_true hb)
    | _ =>
      rw [hl] at hb
      cases hb
  have held := (h.bank p).mp holds
  unfold PairState.inBank at held
  unfold PairState.passInBank
  split at held
  next w hw => simp_all
  · cases held

/-- The state in which a yield sets its quiet guard: the role entered, the sweep told and the learning abandoned. -/
def State.yieldBegun (s : State) (p : Pair) (m : YieldMode) (c : RoleCause) : State :=
  ((s.setRole p (.yielding m false false) c).yieldSweep p m).abandonLearning p .role

theorem State.enterYielding_eq (s : State) (p : Pair) (m : YieldMode) (c : RoleCause) :
    s.enterYielding p m c = ((s.yieldBegun p m c).setGuard p m ((s.yieldBegun p m c).pair p).passInBank
      ((s.yieldBegun p m c).inFlightOn p)).arbitrate := rfl

theorem State.abandonSweep_queue (s : State) (p : Pair) : (s.abandonSweep p).queue = s.queue := by
  rcases s.abandonSweep_cases p with h | ⟨_, _, _, h⟩ <;> rw [h]
  rcases s.abortPass_cases p with ⟨_, h⟩ | ⟨_, h⟩ <;> rw [h] <;> rfl

theorem State.yieldBegun_queue (s : State) (p : Pair) (m : YieldMode) (c : RoleCause) :
    (s.yieldBegun p m c).queue = s.queue := by
  unfold State.yieldBegun State.yieldSweep State.abandonUnlessRunning
  rw [State.abandonLearning_queue]
  split
  · exact State.abandonSweep_queue _ p
  · split
    · rfl
    · exact State.abandonSweep_queue _ p

/-- What abandoned learning leaves of the role and of the sweep. -/
theorem State.abandonLearning_role (s : State) (p : Pair) (c : LearnCause) :
    ((s.abandonLearning p c).pair p).role = (s.pair p).role
      ∧ ((s.abandonLearning p c).pair p).lastRole = (s.pair p).lastRole
      ∧ ((s.abandonLearning p c).pair p).sweep = (s.pair p).sweep := by
  rw [State.pair_abandonLearning_same]
  unfold PairState.abandonLearning
  split <;> exact ⟨rfl, rfl, rfl⟩

theorem State.yieldBegun_role (s : State) (p : Pair) (m : YieldMode) (c : RoleCause) :
    ((s.yieldBegun p m c).pair p).role = .yielding m false false
      ∧ ((s.yieldBegun p m c).pair p).lastRole = some ⟨(s.pair p).role.name, .yielding, c, s.now⟩ := by
  obtain ⟨role, lastRole, _⟩ := ((s.setRole p (.yielding m false false) c).yieldSweep p m).abandonLearning_role p .role
  have told := ((s.setRole p (.yielding m false false) c).yieldSweep_kept p m).pair p
  rw [State.pair_setRole_same] at told
  exact ⟨role.trans told.role, lastRole.trans told.lastRole⟩

theorem State.yieldBegun_part (s : State) (p : Pair) (m : YieldMode) (c : RoleCause) :
    PartKept (s.setRole p (.yielding m false false) c) (s.yieldBegun p m c) :=
  (State.yieldSweep_kept _ p m).toPartKept.trans (State.abandonLearning_kept _ p .role).toPartKept

/-- The quiet guard of a yield waits for a running pass of a GRACEFUL one, and for the pair's exchange (R72, R161). -/
theorem State.yieldBegun_guard {s : State} {p : Pair} (m : YieldMode) (c : RoleCause)
    (hd : (s.pair p).completionDue = false) (hb : s.bank.runs p = true → (s.pair p).passInBank = true) :
    ((s.yieldBegun p m c).pair p).passInBank = (decide (m = .graceful) && s.bank.runs p)
      ∧ (s.yieldBegun p m c).inFlightOn p = s.inFlightOn p := by
  constructor
  · obtain ⟨_, _, sweep⟩ := ((s.setRole p (.yielding m false false) c).yieldSweep p m).abandonLearning_role p .role
    have entered : ((s.setRole p (.yielding m false false) c).pair p).sweep = (s.pair p).sweep := by
      rw [State.pair_setRole_same]
    have told := State.passInBank_yieldSweep (s := s.setRole p (.yielding m false false) c) (p := p) m
      (by rwa [PairState.completionDue, entered]) (fun h => by rw [PairState.passInBank, entered]; exact hb h)
    rwa [PairState.passInBank, ← sweep] at told
  · unfold State.inFlightOn
    rw [State.yieldBegun_queue]

/-- The role of a pair after a yield has begun: YIELDING while its guard waits, LISTEN otherwise (R161, R162). -/
theorem State.enterYielding_role {s : State} {p : Pair} {m : YieldMode} {c : RoleCause} {pass : Bool}
    (hp : ((s.yieldBegun p m c).pair p).passInBank = pass) (hx : (s.yieldBegun p m c).inFlightOn p = s.inFlightOn p) :
    if pass || s.inFlightOn p then
      ((s.enterYielding p m c).pair p).role = .yielding m pass (s.inFlightOn p)
        ∧ ((s.enterYielding p m c).pair p).lastRole = some ⟨(s.pair p).role.name, .yielding, c, s.now⟩
    else ((s.enterYielding p m c).pair p).role = .listen
        ∧ ((s.enterYielding p m c).pair p).lastRole = some ⟨.yielding, .listen, .roleYielded, s.now⟩ := by
  obtain ⟨role, lastRole⟩ := s.yieldBegun_role p m c
  have granted := (((s.yieldBegun p m c).setGuard p m pass (s.inFlightOn p)).arbitrate_kept).pair p
  rw [State.enterYielding_eq, hp, hx, granted.role, granted.lastRole]
  rcases (s.yieldBegun p m c).setGuard_cases p m pass (s.inFlightOn p) with ⟨waits, h⟩ | ⟨hpass, hflight, h⟩ <;> rw [h]
  · rw [if_pos waits, State.pair_modPair_same]
    exact ⟨rfl, lastRole⟩
  · rw [hpass, hflight, State.pair_finishYield_same, (s.yieldBegun_part p m c).now, role]
    exact ⟨rfl, rfl⟩

/-- A yield sets ROLE CHANGE (R152). -/
theorem State.enterYielding_roleChange (s : State) (p : Pair) (m : YieldMode) (c : RoleCause) :
    ((s.enterYielding p m c).port.flags.pairs.get p).get .roleChange = true :=
  (((s.yieldBegun_part p m c).trans (State.setGuard_yield ..).toPartKept).trans
    (State.arbitrate_kept _).toPartKept).flags p .roleChange (State.setPairFlag_get_same _ p .roleChange)

/-! ### The end of a claim (R157) -/

theorem State.pair_endClaim_same (s : State) (p : Pair) (c : RoleCause) : (s.endClaim p c).pair p = { s.pair p with
    role := .listen, lastRole := some ⟨(s.pair p).role.name, .listen, c, s.now⟩, tone := ⟨.free, []⟩
    probeOn := false } := by
  unfold State.endClaim
  rw [State.pair_modPair_same, State.pair_setRole_same]
  rfl

theorem State.endClaim_returns (s : State) (p : Pair) (c : RoleCause) : ReturnsKept s (s.endClaim p c) :=
  (s.setRole_returns ..).trans (.modPair ⟨rfl, rfl, rfl, rfl⟩)

theorem State.endClaim_roleChange (s : State) (p : Pair) (c : RoleCause) :
    ((s.endClaim p c).port.flags.pairs.get p).get .roleChange = true := State.setPairFlag_get_same _ p .roleChange

end Sys2Proof.Machine
end

section
/-! FAR TONE MILLISECOND (R25, R26): the two detectors, and what a far claim tone and a far keep tone do by role state (R7,
R155, R157 to R159, R164). -/

namespace Sys2Proof.Machine

/-! ### The detectors (R25, R26) -/

/-- One millisecond of a detector: its run, its state once the run is long enough, and the event of a tone that begins. -/
theorem ToneDetector.judge_eq (d : ToneDetector) (time : Nat) (present : Bool) : d.judge time present =
    (if d.held = present then ⟨d.held, 0⟩ else if d.run + 1 < time then ⟨d.held, d.run + 1⟩ else ⟨present, 0⟩,
      present && !d.held && decide (time ≤ d.run + 1)) := by
  unfold ToneDetector.judge
  by_cases same : d.held = present
  · simp [same]
  · have flips : present = !d.held := by
      cases hd : d.held <;> cases present <;> simp_all
    rw [if_neg same, if_neg same, flips]
    by_cases short : d.run + 1 < time
    · simp [short, Nat.not_le.mpr short]
    · simp [short, Nat.not_lt.mp short]

theorem PairState.tonePresent_eq (q : PairState) (a : Nat) :
    q.tonePresent a = (decide (q.role ≠ .synthetic) && decide (q.config.activityLevel ≤ a)) := by
  simp [PairState.tonePresent, Role.name_eq_synthetic]

/-- The detectors of a pair after a millisecond with two amplitudes. -/
def PairState.heard (q : PairState) (f3 f4 : Nat) : PairState :=
  { q with
    clock := { q.clock with msCycles := 0 }
    inputs := { q.inputs with f3 := f3, f4 := f4 }
    det := { q.det with
      claimTone := (q.det.claimTone.judge q.config.detectTime (q.tonePresent f3)).1
      keepTone := (q.det.keepTone.judge q.config.detectTime (q.tonePresent f4)).1 } }

/-- Whether the millisecond raises FAR CLAIM TONE. -/
def PairState.hearsClaim (q : PairState) (f3 : Nat) : Bool :=
  (q.det.claimTone.judge q.config.detectTime (q.tonePresent f3)).2

/-- Whether the millisecond raises FAR KEEP TONE. -/
def PairState.hearsKeep (q : PairState) (f4 : Nat) : Bool :=
  (q.det.keepTone.judge q.config.detectTime (q.tonePresent f4)).2

/-- The answers to the events of a millisecond, the claim tone first (log entry 11). -/
def State.answerTones (s : State) (p : Pair) (claim keep : Bool) : State :=
  let s := if claim then s.farClaim p else s
  if keep then s.farKeep p else s

/-- What a millisecond hears depends on the Return Interface and the role alone. -/
theorem ReturnKept.hears {q q' : PairState} (h : ReturnKept q q') (hr : q'.role = q.role) (f3 f4 : Nat) :
    q'.hearsClaim f3 = q.hearsClaim f3 ∧ q'.hearsKeep f4 = q.hearsKeep f4
      ∧ ReturnKept (q.heard f3 f4) (q'.heard f3 f4) := by
  have present (a : Nat) : q'.tonePresent a = q.tonePresent a := by simp [PairState.tonePresent_eq, hr, h.config]
  unfold PairState.hearsClaim PairState.hearsKeep
  rw [present, present, h.det, h.config]
  exact ⟨rfl, rfl, h.config, by simp [PairState.heard, h.clock], by simp [PairState.heard, h.inputs],
    by simp [PairState.heard, h.det, h.config, present]⟩

/-! ### The millisecond -/

theorem exec_farToneMillisecond {s : State} (hs : s.inReset = false) (p : Pair) (f3 f4 : Nat) :
    exec (.farToneMillisecond p f3 f4) s = .next (s.farMillisecond p f3 f4).transmit :=
  live_running hs (·.farMillisecond p f3 f4)

section
variable {s : State} {p : Pair} {f3 f4 : Nat}

theorem State.farMillisecond_eq (hr : (s.pair p).role ≠ .parked)
    (hd : (s.pair p).hearsClaim f3 = true → (s.pair p).yieldsOnClaim = true → (s.pair p).completionDue = false) :
    s.farMillisecond p f3 f4 = (s.setPair p ((s.pair p).heard f3 f4)).answerTones p ((s.pair p).hearsClaim f3)
      ((s.pair p).hearsKeep f4) := by
  have untaken : (if ((s.pair p).hearsClaim f3 && (s.pair p).yieldsOnClaim) = true then s.takeCompletion p else s) = s := by
    split
    next h => exact State.takeCompletion_of_not_due (hd (Bool.and_eq_true_iff.mp h).1 (Bool.and_eq_true_iff.mp h).2)
    · rfl
  unfold PairState.hearsClaim at untaken
  unfold State.farMillisecond
  dsimp only
  rw [if_neg (mt Role.name_eq_parked.mp hr), untaken]
  rfl

theorem PairState.yieldsOnClaim_iff {q : PairState} :
    q.yieldsOnClaim = true ↔ q.role.name = .holder ∧ q.config.yieldPolicy = .yield := by simp [PairState.yieldsOnClaim]

/-- A yield to a far claim finds a completion that is due taken in full (R73, R159). -/
theorem State.farMillisecond_takeCompletion (hc : (s.pair p).hearsClaim f3 = true)
    (hy : (s.pair p).yieldsOnClaim = true) :
    s.farMillisecond p f3 f4 = (s.takeCompletion p).farMillisecond p f3 f4 := by
  have holder := (PairState.yieldsOnClaim_iff.mp hy).1
  have lit (r : RoleName) (h : r ≠ .holder) : (s.pair p).role.name ≠ r := fun e => h (e.symm.trans holder)
  have kept := (s.takeCompletion_returns p).pair p
  obtain ⟨notDue, role⟩ := State.pair_takeCompletion (s := s) (p := p) (lit .yielding (by decide))
  have present (a : Nat) : ((s.takeCompletion p).pair p).tonePresent a = (s.pair p).tonePresent a := by
    simp [PairState.tonePresent_eq, role, kept.config]
  have taken : (if ((s.pair p).hearsClaim f3 && (s.pair p).yieldsOnClaim) = true then s.takeCompletion p else s)
      = s.takeCompletion p := if_pos (by rw [hc, hy]; rfl)
  unfold PairState.hearsClaim at taken
  unfold State.farMillisecond
  dsimp only
  rw [role, kept.det, kept.config, present, present, if_neg (lit .parked (by decide)), if_neg (lit .parked (by decide)),
    taken, State.takeCompletion_of_not_due notDue, ite_self]

end

/-! ### The answers by role state -/

theorem State.farKeep_other {s : State} {p : Pair} (h : (s.pair p).role.name ≠ .claiming) : s.farKeep p = s := by
  unfold State.farKeep
  split
  next hr => exact absurd (congrArg Role.name hr) h
  · rfl

theorem State.farKeep_claiming {s : State} {p : Pair} (h : (s.pair p).role.name = .claiming) :
    s.farKeep p = s.endClaim p .roleRefused := by
  unfold State.farKeep
  split
  · rfl
  next hr =>
    cases he : (s.pair p).role with
    | claiming t quiet => exact absurd he (hr t quiet)
    | _ => simp [he, Role.name] at h

theorem State.farClaim_other {s : State} {p : Pair} (hc : (s.pair p).role.name ≠ .claiming)
    (hh : (s.pair p).role.name ≠ .holder) : s.farClaim p = s := by
  unfold State.farClaim
  split
  next hr => exact absurd (congrArg Role.name hr) hc
  next hr => exact absurd (congrArg Role.name hr) hh
  · rfl

section
variable {s : State} {p : Pair}

theorem State.farClaim_endB {n : Nat} {quiet : QuietTimer} (hr : (s.pair p).role = .claiming n quiet)
    (he : s.endSetting = .endB) : s.farClaim p = s.endClaim p .roleContended := by
  unfold State.farClaim
  rw [hr]
  dsimp only
  rw [he]

theorem State.farClaim_endA {n : Nat} {quiet : QuietTimer} (hr : (s.pair p).role = .claiming n quiet)
    (he : s.endSetting = .endA) :
    s.farClaim p = s.modPair p fun q => { q with role := .claiming n quiet.onFarClaim } := by
  unfold State.farClaim
  rw [hr]
  dsimp only
  rw [he]

theorem State.farClaim_keep {c : CollisionTimer} (hr : (s.pair p).role = .holder c)
    (hp : (s.pair p).config.yieldPolicy = .keep) :
    s.farClaim p = s.modPair p fun q => { q with tone := keepOrdered q.tone } := by
  unfold State.farClaim
  rw [hr]
  dsimp only
  rw [hp]
  exact s.orderKeep_eq p

theorem State.farClaim_yield {c : CollisionTimer} (hr : (s.pair p).role = .holder c)
    (hp : (s.pair p).config.yieldPolicy = .yield) :
    s.farClaim p = s.enterYielding p (s.pair p).config.yieldMode .farClaim := by
  unfold State.farClaim
  rw [hr]
  dsimp only
  rw [hp]

end

theorem State.farClaim_returns (s : State) (p : Pair) : ReturnsKept s (s.farClaim p) := by
  unfold State.farClaim
  split
  · split
    · exact s.endClaim_returns ..
    · exact .modPair ⟨rfl, rfl, rfl, rfl⟩
  · split
    · exact (s.orderKeep_kept p).returns
    · exact s.enterYielding_returns ..
  · exact .refl s

theorem State.answerTones_returns (s : State) (p : Pair) (claim keep : Bool) :
    ReturnsKept s (s.answerTones p claim keep) := by
  have refused (s : State) : ReturnsKept s (s.farKeep p) := by
    unfold State.farKeep
    split
    · exact s.endClaim_returns ..
    · exact .refl s
  cases claim <;> cases keep
  · exact .refl s
  · exact refused s
  · exact s.farClaim_returns p
  · exact (s.farClaim_returns p).trans (refused _)

/-- A role that is neither CLAIMING nor HOLDER hears and does not answer (R164). -/
theorem State.answerTones_other {s : State} {p : Pair} (hc : (s.pair p).role.name ≠ .claiming)
    (hh : (s.pair p).role.name ≠ .holder) (claim keep : Bool) : s.answerTones p claim keep = s := by
  unfold State.answerTones
  rw [State.farClaim_other hc hh, ite_self]
  dsimp only
  rw [State.farKeep_other hc, ite_self]

/-- A claim tone whose answer leaves no claim behind: a keep tone of the same millisecond finds nothing to end. -/
theorem State.answerTones_claim {s t : State} {p : Pair} (h : s.farClaim p = t)
    (ht : (t.pair p).role.name ≠ .claiming) (keep : Bool) : s.answerTones p true keep = t := by
  unfold State.answerTones
  rw [if_pos rfl, h]
  dsimp only
  rw [State.farKeep_other ht, ite_self]

/-- A keep tone ends a claim that the claim tone of its millisecond has not ended (R157). -/
theorem State.answerTones_refused {s : State} {p : Pair} {n : Nat} {quiet : QuietTimer}
    (hr : (s.pair p).role = .claiming n quiet) {claim : Bool} (h : claim = false ∨ s.endSetting = .endA) :
    ∃ u : State, u.now = s.now ∧ (u.pair p).role.name = .claiming
      ∧ s.answerTones p claim true = u.endClaim p .roleRefused := by
  have answered (u : State) (hu : (if claim then s.farClaim p else s) = u) (role : (u.pair p).role.name = .claiming) :
      s.answerTones p claim true = u.endClaim p .roleRefused := by
    unfold State.answerTones
    rw [hu, if_pos rfl, State.farKeep_claiming role]
  have own : (s.pair p).role.name = .claiming := congrArg Role.name hr
  cases hc : claim with
  | false => exact ⟨s, rfl, own, hc ▸ answered s (by simp [hc]) own⟩
  | true =>
    have told := State.farClaim_endA hr (h.resolve_left (by simp [hc]))
    have role : ((s.farClaim p).pair p).role.name = .claiming := by rw [told, State.pair_modPair_same]; rfl
    exact ⟨s.farClaim p, by rw [told]; rfl, role, hc ▸ answered _ (by simp [hc]) role⟩

/-- The Return Interface after a millisecond, whatever its events set off. -/
theorem State.farMillisecond_heard {s : State} {p : Pair} (hr : (s.pair p).role ≠ .parked) (f3 f4 : Nat) :
    ReturnKept ((s.pair p).heard f3 f4) ((s.farMillisecond p f3 f4).pair p) := by
  have heard (s : State) (hr : (s.pair p).role ≠ .parked)
      (hd : (s.pair p).hearsClaim f3 = true → (s.pair p).yieldsOnClaim = true → (s.pair p).completionDue = false) :
      ReturnKept ((s.pair p).heard f3 f4) ((s.farMillisecond p f3 f4).pair p) := by
    have answered := ((s.setPair p ((s.pair p).heard f3 f4)).answerTones_returns p ((s.pair p).hearsClaim f3)
      ((s.pair p).hearsKeep f4)).pair p
    rwa [State.pair_setPair_same, ← State.farMillisecond_eq hr hd] at answered
  by_cases yields : (s.pair p).hearsClaim f3 = true ∧ (s.pair p).yieldsOnClaim = true
  · obtain ⟨claim, yields⟩ := yields
    have holder := (PairState.yieldsOnClaim_iff.mp yields).1
    obtain ⟨notDue, role⟩ := State.pair_takeCompletion (s := s) (p := p) (by rw [holder]; decide)
    obtain ⟨_, _, same⟩ := ((s.takeCompletion_returns p).pair p).hears role f3 f4
    rw [State.farMillisecond_takeCompletion claim yields]
    exact same.trans (heard _ (by rwa [role]) fun _ _ => notDue)
  · exact heard s hr fun claim policy => absurd ⟨claim, policy⟩ yields

/-- Settles O45: what the millisecond hears (`PairState.heard`), and the answer of each role state to its events. -/
theorem farTonesAreJudged : Obligations.FarTonesAreJudged := by
  intro p f3 f4 s hs hr q present judged raised q' claim keep
  have hq : q.heard f3 f4 = q' := by
    simp only [PairState.heard, ToneDetector.judge_eq, PairState.tonePresent_eq]
    rfl
  have hclaim : q.hearsClaim f3 = claim := by
    simp only [PairState.hearsClaim, ToneDetector.judge_eq, PairState.tonePresent_eq]
    rfl
  have hkeep : q.hearsKeep f4 = keep := by
    simp only [PairState.hearsKeep, ToneDetector.judge_eq, PairState.tonePresent_eq]
    rfl
  have role : ((s.setPair p q').pair p).role = q.role := by rw [State.pair_setPair_same]
  have config : ((s.setPair p q').pair p).config = q.config := by rw [State.pair_setPair_same]
  have unyielding (h : q.role.name ≠ .holder ∨ q.config.yieldPolicy = .keep ∨ claim = false ∨ q.completionDue = false) :
      s.farMillisecond p f3 f4 = (s.setPair p q').answerTones p claim keep := by
    rw [← hclaim, ← hkeep, ← hq]
    refine State.farMillisecond_eq hr fun hc hy => ?_
    obtain ⟨holder, policy⟩ := PairState.yieldsOnClaim_iff.mp hy
    rcases h with h | h | h | h
    · exact absurd holder h
    · cases policy.symm.trans h
    · cases hc.symm.trans (hclaim.trans h)
    · exact h
  refine ⟨_, exec_farToneMillisecond hs p f3 f4, ?_⟩
  have heard := State.farMillisecond_heard hr f3 f4
  rw [show (s.pair p).heard f3 f4 = q' from hq] at heard
  simp only [State.pair_transmit, State.transmit_port_flags]
  refine ⟨heard.det, heard.inputs, heard.clock, fun hc hk => ?_, fun h => ?_, fun n quiet hc h he => ?_,
    fun n quiet hc hk h he => ?_, fun n quiet hk hce h => ?_, fun c hc h hp => ?_, fun c hc h hp hd => ?_,
    fun c hc h hp hi hd => ?_⟩
  · rw [unyielding (.inr (.inr (.inl hc))), hc, hk]
    rfl
  · have deaf : q.role.name ≠ .claiming ∧ q.role.name ≠ .holder := by
      rcases h with h | h | h <;> rw [h] <;> decide
    rw [unyielding (.inl deaf.2), State.answerTones_other (by rw [role]; exact deaf.1) (by rw [role]; exact deaf.2)]
  · have ended := State.farClaim_endB (role.trans h) (show (s.setPair p q').endSetting = .endB from he)
    have left := (s.setPair p q').pair_endClaim_same p .roleContended
    rw [unyielding (.inl (by rw [h]; exact RoleName.noConfusion)), hc,
      State.answerTones_claim ended (by rw [left]; exact RoleName.noConfusion), left, role, h]
    exact ⟨rfl, rfl, rfl, State.endClaim_roleChange _ p _⟩
  · have restarted := State.farClaim_endA (role.trans h) (show (s.setPair p q').endSetting = .endA from he)
    rw [unyielding (.inl (by rw [h]; exact RoleName.noConfusion)), hc, hk]
    show ((s.setPair p q').farClaim p).transmit = _
    rw [restarted, State.modPair_setPair]
    cases quiet <;> rfl
  · obtain ⟨u, now, claiming, answered⟩ := State.answerTones_refused (role.trans h) (claim := claim) hce
    rw [unyielding (.inl (by rw [h]; exact RoleName.noConfusion)), hk, answered, State.pair_endClaim_same, claiming, now]
    exact ⟨rfl, rfl, rfl, State.endClaim_roleChange u p _⟩
  · have ordered := State.farClaim_keep (role.trans h) (config ▸ hp)
    rw [unyielding (.inr (.inl hp)), hc, State.answerTones_claim ordered, State.modPair_setPair]
    rw [State.modPair_setPair, State.pair_setPair_same]
    show q.role.name ≠ .claiming
    rw [h]
    exact RoleName.noConfusion
  · obtain ⟨notDue, same⟩ := State.pair_takeCompletion (s := s) (p := p)
      (show q.role.name ≠ .yielding by rw [h]; exact RoleName.noConfusion)
    have taken := State.farMillisecond_takeCompletion (f4 := f4) (hclaim.trans hc)
      (PairState.yieldsOnClaim_iff.mpr ⟨congrArg Role.name h, hp⟩)
    refine ⟨notDue, same, ?_⟩
    rw [taken, exec_farToneMillisecond ((s.takeCompletion_kept p).inReset.trans hs)]
  · have yields := State.farClaim_yield (role.trans h) (config ▸ hp)
    rw [config] at yields
    have sweep : ((s.setPair p q').pair p).sweep = q.sweep := by rw [State.pair_setPair_same]
    obtain ⟨pass, exchange⟩ := State.yieldBegun_guard (s := s.setPair p q') (p := p) q.config.yieldMode .farClaim
      (by rwa [PairState.completionDue, sweep])
      (fun hb => by rw [PairState.passInBank, sweep]; exact hi.passInBank_of_runs hb)
    have entered := State.enterYielding_role pass exchange
    have changed := (s.setPair p q').enterYielding_roleChange p q.config.yieldMode .farClaim
    have left : (((s.setPair p q').enterYielding p q.config.yieldMode .farClaim).pair p).role.name ≠ .claiming := by
      split at entered <;> (rw [entered.1]; exact RoleName.noConfusion)
    rw [role, h] at entered
    rw [unyielding (.inr (.inr (.inr hd))), hc, State.answerTones_claim yields left]
    exact ⟨changed, entered⟩

end Sys2Proof.Machine
end

section
/-! RETURN LOSS DECLARED (R20, R22, R71, R130): the sweep abandoned, the exchange cut, and what both leave of the pair and of
the queue. -/

namespace Sys2Proof.Machine

/-! ### What the end of an exchange leaves -/

/-- What the reports of a pair's pass and exchange, and the queue's next start, leave: the detectors, the records, the
published sweep and the current one; the role stands unless it is YIELDING (R128, R162). -/
structure ReportKept (p : Pair) (s t : State) : Prop extends PartKept s t where
  det : (t.pair p).det = (s.pair p).det
  records : (t.pair p).records = (s.pair p).records
  published : (t.pair p).published = (s.pair p).published
  sweep : (t.pair p).sweep = (s.pair p).sweep
  role : (s.pair p).role.name ≠ .yielding → (t.pair p).role = (s.pair p).role
  others : ∀ p' : Pair, p' ≠ p → PairKept (s.pair p') (t.pair p')
  bank : t.bank = s.bank

theorem ReportKept.trans {p : Pair} {s t u : State} (h : ReportKept p s t) (h' : ReportKept p t u) : ReportKept p s u where
  toPartKept := h.toPartKept.trans h'.toPartKept
  det := h'.det.trans h.det
  records := h'.records.trans h.records
  published := h'.published.trans h.published
  sweep := h'.sweep.trans h.sweep
  role hr := (h'.role (by rwa [h.role hr])).trans (h.role hr)
  others p' hp := (h.others p' hp).trans (h'.others p' hp)
  bank := h'.bank.trans h.bank

theorem LineKept.report {p : Pair} {s t : State} (h : LineKept s t) (hs : (t.pair p).sweep = (s.pair p).sweep)
    (hb : t.bank = s.bank) : ReportKept p s t :=
  ⟨h.toPartKept, (h.pair p).det, (h.pair p).records, (h.pair p).published, hs, fun _ => (h.pair p).role,
    fun p' _ => h.pair p', hb⟩

theorem BookKept.report {p : Pair} {s t : State} (h : BookKept s t) : ReportKept p s t :=
  h.line.report (by rw [h.pair]) h.bank

theorem YieldKept.report {p : Pair} {s t : State} (h : YieldKept p s t)
    (hr : (s.pair p).role.name ≠ .yielding → t = s) : ReportKept p s t := by
  obtain ⟨_, _, _, _, own⟩ := h.own
  exact ⟨h.toPartKept, by rw [own], by rw [own], by rw [own], by rw [own], fun hn => by rw [hr hn],
    fun p' hp => h.others p' hp ▸ .refl _, h.bank⟩

theorem State.reportLeftBank_report (s : State) (p : Pair) : ReportKept p s (s.reportLeftBank p) :=
  (s.reportLeftBank_yield p).report State.reportLeftBank_of_not_yielding

theorem State.reportExchangeEnd_report (s : State) (p : Pair) : ReportKept p s (s.reportExchangeEnd p) :=
  (s.reportExchangeEnd_yield p).report State.reportExchangeEnd_of_not_yielding

theorem State.startNext_report (s : State) (p : Pair) : ReportKept p s s.startNext :=
  s.startNext_kept.report (s.startNext_sweep p) s.startNext_bank

/-- An exchange whose result is not DONE asks nothing of the Repeater Table (R128, R129). -/
theorem State.endExchange_of_not_done (s : State) (e : QueueEntry) {x : ExchangeResult} (h : x ≠ .done)
    (reply : List Byte) :
    s.endExchange e x reply = ((s.settle e x reply).reportExchangeEnd e.pair).startNext := by
  unfold State.endExchange
  dsimp only
  rw [if_neg h]

/-- The pair with the tone field that a declaration leaves it (R130). -/
def State.toneCut (s : State) (e : QueueEntry) : State := s.modPair e.pair fun q => { q with tone := q.tone.cut e }

theorem State.pair_toneCut (s : State) (e : QueueEntry) :
    (s.toneCut e).pair e.pair = { s.pair e.pair with tone := (s.pair e.pair).tone.cut e } :=
  State.pair_modPair_same s e.pair _

/-- The exchange in flight on a pair that declares return loss ends with RETURN LOSS (R130). -/
theorem State.cutExchange_of_flight {s : State} {e : QueueEntry} (h : s.flight = some e) :
    s.cutExchange e.pair = (((s.toneCut e).settle e .returnLoss []).reportExchangeEnd e.pair).startNext := by
  unfold State.cutExchange
  rw [h]
  dsimp only
  rw [if_pos rfl]
  exact State.endExchange_of_not_done _ e (by decide) []

/-- A declaration: nothing while no exchange of the pair is in flight, else its end with RETURN LOSS (R130). -/
theorem State.cutExchange_cases (s : State) (p : Pair) :
    s.cutExchange p = s ∨ ∃ e, s.flight = some e ∧ e.pair = p := by
  unfold State.cutExchange
  cases hf : s.flight with
  | none => exact .inl rfl
  | some e =>
    by_cases hp : e.pair = p
    · exact .inr ⟨e, rfl, hp⟩
    · exact .inl (if_neg hp)

theorem State.toneCut_report (s : State) (e : QueueEntry) : ReportKept e.pair s (s.toneCut e) := by
  refine LineKept.report (.modPair (.of_tone_sweep _ _ _)) ?_ rfl
  show ((s.toneCut e).pair e.pair).sweep = _
  rw [State.pair_toneCut]

theorem State.cutExchange_report (s : State) (p : Pair) : ReportKept p s (s.cutExchange p) := by
  rcases s.cutExchange_cases p with h | ⟨e, hf, rfl⟩
  · rw [h]
    exact (BookKept.refl s).report
  · rw [State.cutExchange_of_flight hf]
    exact (((s.toneCut_report e).trans (State.settle_kept ..).report).trans (State.reportExchangeEnd_report ..)).trans
      (State.startNext_report ..)

/-! ### The queue through the reports -/

/-- A role loss leaves the exchange in flight the first in flight (R131). -/
theorem queueAfterRoleLoss_split {before after : List QueueEntry} {e : QueueEntry} (p : Pair)
    (hb : ∀ z ∈ before, z.isInFlight = false) (he : e.isWaiting = false) :
    ∃ before' after', (∀ z ∈ before', z.isInFlight = false)
      ∧ queueAfterRoleLoss p (before ++ e :: after) = before' ++ e :: after' := by
  refine ⟨queueAfterRoleLoss p before, queueAfterRoleLoss p after, fun z hz => ?_, ?_⟩
  · obtain ⟨x, hx, h⟩ := List.mem_filterMap.mp hz
    split at h
    · split at h <;> cases h
      rfl
    · cases h
      exact hb _ hx
  · have kept : ¬(e.isWaiting = true ∧ e.pair = p) := fun h => by simp [he] at h
    simp [queueAfterRoleLoss, List.filterMap_append, kept]

theorem YieldKept.queue_split {p : Pair} {s t : State} (h : YieldKept p s t) {before after : List QueueEntry}
    {e : QueueEntry} (hq : s.queue = before ++ e :: after) (hb : ∀ z ∈ before, z.isInFlight = false)
    (he : e.isWaiting = false) :
    ∃ before' after', (∀ z ∈ before', z.isInFlight = false) ∧ t.queue = before' ++ e :: after' := by
  rcases h.queue with hk | hk <;> rw [hk, hq]
  · exact ⟨before, after, hb, rfl⟩
  · exact queueAfterRoleLoss_split p hb he

/-- An entry that does not fit stays in the list. -/
theorem mem_modFirst {α : Type} {fits : α → Bool} (f : α → α) {xs : List α} {x : α} (hx : x ∈ xs)
    (hf : fits x = false) : x ∈ modFirst fits f xs := by
  obtain ⟨before, after, rfl⟩ := List.append_of_mem hx
  obtain ⟨_, _, _, _, h⟩ := modFirst_keeps_place f before after hf
  rw [h]
  exact List.mem_append_right _ (List.mem_cons_self ..)

/-- An entry that has ended is no entry to start, nor in flight. -/
theorem QueueEntry.ended_not {e : QueueEntry} {x : ExchangeResult} {reply : List Byte} {b : Bool}
    (h : e.state = .done x reply b) : e.isWaiting = false ∧ e.isInFlight = false := by
  simp [QueueEntry.isWaiting, QueueEntry.isInFlight, h]

/-- The queue's next start leaves an entry that has ended (R117). -/
theorem State.mem_startNext_queue {s : State} {e : QueueEntry} (hm : e ∈ s.queue) (hw : e.isWaiting = false)
    (hf : e.isInFlight = false) : e ∈ s.startNext.queue := by
  have stays : s.eligible e = false := by simp [State.eligible, hw]
  rcases s.startNext_cases with h | ⟨e', _, _, h⟩ <;> rw [h]
  · exact hm
  · have started := mem_modFirst (fun e => e.start ((s.pair e.pair).capture e.index)) hm stays
    rcases State.askTone_cases _ e'.pair with ⟨_, h⟩ | ⟨_, h⟩ <;> rw [h]
    · exact mem_modFirst _ started hf
    · exact mem_modFirst _ started hf

/-- The transmitter's choice leaves an entry that has ended, its notice begun or not (R172). -/
theorem State.mem_transmit_queue {s : State} {e : QueueEntry} {x : ExchangeResult} {reply : List Byte}
    (h : { e with state := .done x reply false } ∈ s.queue) :
    ∃ b : Bool, { e with state := .done x reply b } ∈ s.transmit.queue := by
  have begun (xs : List QueueEntry) (h : { e with state := .done x reply false } ∈ xs) :
      ∃ b : Bool, { e with state := .done x reply b } ∈ modFirst QueueEntry.noticeDue QueueEntry.beginNotice xs := by
    induction xs with
    | nil => cases h
    | cons y ys ih =>
      rw [modFirst]
      rcases List.mem_cons.mp h with rfl | hy
      · split
        · exact ⟨true, List.mem_cons_self ..⟩
        · exact ⟨false, List.mem_cons_self ..⟩
      · split
        · exact ⟨false, List.mem_cons_of_mem _ hy⟩
        · obtain ⟨b, hb⟩ := ih hy
          exact ⟨b, List.mem_cons_of_mem _ hb⟩
  rcases s.transmit_cases with e | ⟨_, _, _, _, e⟩ | ⟨_, _, _, e⟩ | ⟨_, _, _, _, _, e⟩ <;> rw [e]
  · exact ⟨false, h⟩
  · exact ⟨false, h⟩
  · exact ⟨false, h⟩
  · exact begun _ h

/-- A host-origin exchange that is cut stays in the queue with RETURN LOSS (R128, R130). -/
theorem State.mem_cutExchange_queue {s : State} {before after : List QueueEntry} {e : QueueEntry} {tag : Byte}
    (hq : s.queue = before ++ e :: after) (hb : ∀ z ∈ before, z.isInFlight = false) (he : e.isInFlight = true)
    (ho : e.origin = .host tag) :
    { e with state := .done .returnLoss [] false } ∈ (s.cutExchange e.pair).queue := by
  have settled : ((s.toneCut e).settle e .returnLoss []).queue
      = before ++ { e with state := .done .returnLoss [] false } :: after := by
    unfold State.settle
    split
    · exact congrArg State.queue (State.modFlight_of_split _ (s := s.toneCut e) hq hb he)
    next h => cases h.symm.trans ho
  obtain ⟨waits, flies⟩ := QueueEntry.ended_not (e := { e with state := .done .returnLoss [] false }) rfl
  obtain ⟨before', after', _, reported⟩ :=
    (((s.toneCut e).settle e .returnLoss []).reportExchangeEnd_yield e.pair).queue_split settled hb waits
  rw [State.cutExchange_of_flight (State.flight_of_split hq hb he)]
  refine State.mem_startNext_queue ?_ waits flies
  rw [reported]
  exact List.mem_append_right _ (List.mem_cons_self ..)

/-! ### The symbol that is finished (R130) -/

theorem State.pair_askTone_other (s : State) {p p' : Pair} (h : p' ≠ p) : (s.askTone p).pair p' = s.pair p' := by
  rcases s.askTone_cases p with ⟨_, e⟩ | ⟨_, e⟩ <;> rw [e]
  · rw [(State.beginTransmission_kept _).pair, State.pair_modPair_other s _ h]
  · rw [State.pair_modFlight, State.pair_modPair_other s _ h]

/-- A pair whose return loss is declared starts no exchange (R117). -/
theorem State.pair_startNext_of_loss {s : State} {p : Pair} (h : (s.pair p).det.lossDeclared = true) :
    s.startNext.pair p = s.pair p := by
  rcases s.startNext_cases with e | ⟨e', _, he, e⟩ <;> rw [e]
  have eligible : s.eligible e' = true := List.find?_some he
  have other : p ≠ e'.pair := by
    rintro rfl
    simp [State.eligible, h] at eligible
  exact State.pair_askTone_other _ other

/-- Where the pair does not yield, a declaration leaves of it what the tone field shows (R130). -/
theorem State.pair_cutExchange {s : State} {e : QueueEntry} (hf : s.flight = some e)
    (hr : (s.pair e.pair).role.name ≠ .yielding) (hl : (s.pair e.pair).det.lossDeclared = true) :
    (s.cutExchange e.pair).pair e.pair = { s.pair e.pair with tone := (s.pair e.pair).tone.cut e } := by
  have settled : ((s.toneCut e).settle e .returnLoss []).pair e.pair = _ :=
    ((State.settle_kept ..).pair e.pair).trans (s.pair_toneCut e)
  rw [State.cutExchange_of_flight hf, State.reportExchangeEnd_of_not_yielding (by rw [settled]; exact hr),
    State.pair_startNext_of_loss (by rw [settled]; exact hl), settled]

theorem ToneField.cut_transmitting {e : QueueEntry} {c : Captured} {k n : Nat} {compared : Bool} {stop : Option Nat}
    (h : e.state = .inFlight c (.transmitting k n compared stop)) (t : ToneField) :
    (t.cut e).use = .lastSymbol (symbolTone c e.command e.argument k) (c.symbolTime * 16000 - n) := by
  simp [ToneField.cut, h, Captured.symbolCycles, Config.cyclesPerMs]

/-! ### The declaration -/

/-- A completion that is due is taken in full before the loss is declared (R73). -/
theorem State.takeCompletion_not_parked {s : State} {p : Pair} (h : (s.pair p).role.name ≠ .parked) :
    ((s.takeCompletion p).pair p).role.name ≠ .parked := by
  by_cases hy : (s.pair p).role.name = .yielding
  · rcases s.takeCompletion_cases p with ⟨_, e⟩ | ⟨w, stamp, _, _, e⟩ <;> rw [e]
    · exact h
    · rw [State.pair_transmit]
      have role : (((s.stages p w stamp).modPair p fun q => { q with sweep := none }).pair p).role.name ≠ .parked := by
        rw [State.pair_modPair_same]
        show ((s.stages p w stamp).pair p).role.name ≠ .parked
        rwa [(s.stages_kept p w stamp).role p]
      unfold State.leaveBank State.reportLeftBank
      split
      · rcases State.setGuard_cases _ p _ false _ with ⟨_, e⟩ | ⟨_, _, e⟩ <;> rw [e]
        · rw [State.pair_modPair_same]
          exact RoleName.noConfusion
        · rw [State.pair_finishYield_same]
          exact RoleName.noConfusion
      · exact role
  · rwa [(State.pair_takeCompletion hy).2]

theorem PairState.lossDue_iff {q : PairState} : q.lossDue = true ↔
    q.role.name ≠ .parked ∧ q.det.lossDeclared = false ∧ q.config.lossRun ≤ q.det.lossRun := by
  simp [PairState.lossDue, and_assoc]

/-- The pair with its loss declared, its flag set and its sweep abandoned, before the reports (R20, R22, R71). -/
def State.lossBegun (s : State) (p : Pair) : State :=
  ((s.modPair p fun q => { q with det := { q.det with lossDeclared := true, lossRun := 0 } }).setPairFlag p
    .returnLoss).abandonSweep p

theorem State.lossBegun_queue (s : State) (p : Pair) : (s.lossBegun p).queue = s.queue :=
  State.abandonSweep_queue _ p

theorem State.lossBegun_flag (s : State) (p : Pair) :
    ((s.lossBegun p).port.flags.pairs.get p).get .returnLoss = true :=
  (State.abandonSweep_kept _ p).flags p .returnLoss (State.setPairFlag_get_same _ p .returnLoss)

section
variable {s : State} {p : Pair}

theorem State.declareLoss_takeCompletion (h : (s.pair p).lossDue = true) :
    s.declareLoss p = (s.takeCompletion p).declareLoss p := by
  obtain ⟨role, undeclared, run⟩ := PairState.lossDue_iff.mp h
  have kept := (s.takeCompletion_returns p).pair p
  have still : ((s.takeCompletion p).pair p).lossDue = true := PairState.lossDue_iff.mpr
    ⟨State.takeCompletion_not_parked role, by rwa [kept.det], by rwa [kept.det, kept.config]⟩
  unfold State.declareLoss
  rw [if_pos h, if_pos still, State.takeCompletion_of_not_due (s.takeCompletion_not_due p)]

variable (hd : (s.pair p).completionDue = false)
include hd

theorem State.pair_lossBegun_same : (s.lossBegun p).pair p =
    { s.pair p with det := { (s.pair p).det with lossDeclared := true, lossRun := 0 }, sweep := none } := by
  unfold State.lossBegun
  rw [State.abandonSweep_eq (by rw [State.pair_setPairFlag, State.pair_modPair_same]; exact hd)]
  refine (State.pair_setPair_same _ p _).trans ?_
  rw [State.pair_setPairFlag, State.pair_modPair_same]

theorem State.pair_lossBegun_other {p' : Pair} (h : p' ≠ p) : (s.lossBegun p).pair p' = s.pair p' := by
  unfold State.lossBegun
  rw [State.abandonSweep_eq (by rw [State.pair_setPairFlag, State.pair_modPair_same]; exact hd)]
  refine (State.pair_setPair_other _ _ h).trans ?_
  rw [State.pair_setPairFlag, State.pair_modPair_other _ _ h]

/-- The pair's pass has left the bank (R41, R71). -/
theorem State.lossBegun_holder_ne (hi : SweepInv s) : (s.lossBegun p).bank.holder ≠ some p := by
  unfold State.lossBegun
  rw [State.abandonSweep_eq (by rw [State.pair_setPairFlag, State.pair_modPair_same]; exact hd)]
  unfold State.bankWithout
  rw [State.pair_setPairFlag, State.pair_modPair_same]
  show (if _ then Bank.idle else s.bank).holder ≠ some p
  split
  · exact (Option.some_ne_none p).symm
  next h => exact fun hb => h ⟨hi.sweep_isSome hb, hb⟩

theorem exec_returnLossDeclared (hs : s.inReset = false) (hl : (s.pair p).lossDue = true) :
    exec (.returnLossDeclared p) s
      = .next ((((s.lossBegun p).reportLeftBank p).cutExchange p).arbitrate).transmit := by
  refine (live_running hs (·.declareLoss p)).trans ?_
  have left : ¬((s.lossBegun p).pair p).passInBank = true := by
    rw [State.pair_lossBegun_same hd]
    exact Bool.false_ne_true
  unfold State.lossBegun at left ⊢
  unfold State.declareLoss
  rw [if_pos hl, State.takeCompletion_of_not_due hd]
  dsimp only
  rw [if_neg left]

end

/-- Settles O42: a completion that is due is taken first (`declareLoss_takeCompletion`); what is declared stands through the
reports (`ReportKept`), and the exchange that is cut ends in its place (`mem_cutExchange_queue`, `pair_cutExchange`). -/
theorem returnLossIsDeclared : Obligations.ReturnLossIsDeclared := by
  intro p s hs hr hl hrun q
  have due : (s.pair p).lossDue = true := PairState.lossDue_iff.mpr ⟨mt Role.name_eq_parked.mp hr, hl, hrun⟩
  refine ⟨fun _ => ⟨s.takeCompletion_not_due p, ((s.takeCompletion_returns p).pair p).det, ?_⟩, fun hd => ?_⟩
  · refine (live_running hs (·.declareLoss p)).trans ?_
    rw [State.declareLoss_takeCompletion due]
    exact (live_running ((s.takeCompletion_kept p).inReset.trans hs) (·.declareLoss p)).symm
  refine ⟨_, exec_returnLossDeclared hd hs due, ?_⟩
  have begun := State.pair_lossBegun_same hd
  have reported := (s.lossBegun p).reportLeftBank_report p
  have ended := reported.trans (State.cutExchange_report _ p)
  have unswept : ((((s.lossBegun p).reportLeftBank p).cutExchange p).pair p).sweep = none := by rw [ended.sweep, begun]
  have still := State.pair_arbitrate_of_no_sweep unswept
  simp only [State.pair_transmit, State.transmit_port_flags, State.transmit_bank, still]
  refine ⟨by rw [ended.det, begun], ?_, unswept, fun hi => ?_, fun hy => ?_,
    fun before e after c ph tag hq hb hp he ho => ?_,
    fun before e after c k n compared stop hq hb hp he hh => ?_, by rw [ended.records, begun],
    by rw [ended.published, begun], fun p' hp => ?_⟩
  · exact (ended.toPartKept.trans (State.arbitrate_kept _).toPartKept).flags p .returnLoss (s.lossBegun_flag p)
  · refine State.arbitrate_holder_ne unswept ?_
    rw [ended.bank]
    exact State.lossBegun_holder_ne hd hi
  · rw [ended.role (by rw [begun]; exact hy), begun]
  · subst hp
    have flies := QueueEntry.isInFlight_of_state he
    obtain ⟨before', after', hb', hq'⟩ := ((s.lossBegun e.pair).reportLeftBank_yield e.pair).queue_split
      ((s.lossBegun_queue e.pair).trans hq) hb (by simp [QueueEntry.isWaiting, he])
    refine State.mem_transmit_queue ?_
    rw [State.arbitrate_queue]
    exact State.mem_cutExchange_queue hq' hb' flies ho
  · subst hp
    have holder : ((s.lossBegun e.pair).pair e.pair).role.name ≠ .yielding := by
      rw [begun]
      show q.role.name ≠ .yielding
      rw [hh]
      exact RoleName.noConfusion
    have flying := State.flight_of_split (s := s.lossBegun e.pair) ((s.lossBegun_queue e.pair).trans hq) hb
      (QueueEntry.isInFlight_of_state he)
    rw [State.reportLeftBank_of_not_yielding holder, State.pair_cutExchange flying holder (by rw [begun])]
    exact ToneField.cut_transmitting he _
  · have others := (ended.others p' hp).trans (State.arbitrate_kept _ |>.pair p')
    rwa [State.pair_lossBegun_other hd hp] at others

end Sys2Proof.Machine
end

section
/-! Plans, grants and passes (R33, R36, R37, R40, R66 to R70, R72): how records are packed, whom the arbiter grants, and what
PASS BEGIN and PASS END make of the bank and of a sweep. -/

namespace Sys2Proof.Machine

/-! ### The plan of a sweep (R66 to R68) -/

/-- The bins of the windows of a pass. -/
def passBins (ws : List Window) : Nat := (ws.map Window.bins).sum

@[simp] theorem passBins_nil : passBins [] = 0 := rfl

@[simp] theorem passBins_append (ws : List Window) (w : Window) : passBins (ws ++ [w]) = passBins ws + w.bins := by
  simp [passBins]

@[simp] theorem passBins_singleton (w : Window) : passBins [w] = w.bins := by simp [passBins]

section
variable (current : List Window) (used : Nat)

theorem packPasses_nil (h : current ≠ []) : packPasses current used [] = [current] := by
  cases current with
  | nil => exact absurd rfl h
  | cons => rfl

variable {used} {w : Window} (rest : List Window)

/-- A record joins the pass in which it has room. -/
theorem packPasses_join (h : used + w.bins ≤ 2048) :
    packPasses current used (w :: rest) = packPasses (current ++ [w]) (used + w.bins) rest := by
  rw [packPasses]
  exact if_pos h

/-- A record that would go beyond the bank begins the next pass. -/
theorem packPasses_next (h : 2048 < used + w.bins) :
    packPasses current used (w :: rest) = current :: packPasses [w] w.bins rest := by
  rw [packPasses]
  exact if_neg (Nat.not_le.mpr h)

end

theorem packPasses_flatten (current : List Window) (used : Nat) (ws : List Window) :
    (packPasses current used ws).flatten = current ++ ws := by
  induction ws generalizing current used with
  | nil => cases current <;> simp [packPasses]
  | cons w rest ih =>
    by_cases h : used + w.bins ≤ 2048
    · rw [packPasses_join current rest h, ih, List.append_assoc]
      rfl
    · rw [packPasses_next current rest (Nat.lt_of_not_le h), List.flatten_cons, ih]
      rfl

/-- The first pass begins with the records already in it. -/
theorem packPasses_head {current : List Window} (used : Nat) (ws : List Window) (h : current ≠ []) :
    ∃ more passes, packPasses current used ws = (current ++ more) :: passes := by
  induction ws generalizing current used with
  | nil => exact ⟨[], [], by rw [packPasses_nil current used h, List.append_nil]⟩
  | cons w rest ih =>
    by_cases hw : used + w.bins ≤ 2048
    · obtain ⟨more, passes, e⟩ := ih (current := current ++ [w]) (used + w.bins) (by simp)
      exact ⟨w :: more, passes, by rw [packPasses_join current rest hw, e, List.append_assoc]; rfl⟩
    · exact ⟨[], _, by rw [packPasses_next current rest (Nat.lt_of_not_le hw), List.append_nil]⟩

/-- Windows that fit the bank one by one are packed into passes that fit it. -/
theorem packPasses_fits {current : List Window} {ws : List Window} (hc : passBins current ≤ 2048)
    (hw : ∀ w ∈ ws, w.bins ≤ 2048) : ∀ x ∈ packPasses current (passBins current) ws, x ≠ [] ∧ passBins x ≤ 2048 := by
  induction ws generalizing current with
  | nil =>
    intro x hx
    cases current with
    | nil => cases hx
    | cons y ys =>
      obtain rfl := List.mem_singleton.mp hx
      exact ⟨List.cons_ne_nil _ _, hc⟩
  | cons w rest ih =>
    have fits := hw w (List.mem_cons_self ..)
    have others : ∀ w ∈ rest, w.bins ≤ 2048 := fun x hx => hw x (List.mem_cons_of_mem _ hx)
    by_cases h : passBins current + w.bins ≤ 2048
    · rw [packPasses_join current rest h, ← passBins_append]
      exact ih (by rwa [passBins_append]) others
    · rw [packPasses_next current rest (Nat.lt_of_not_le h)]
      intro x hx
      rcases List.mem_cons.mp hx with rfl | hx
      · refine ⟨?_, hc⟩
        rintro rfl
        simp at h
        omega
      · exact ih (current := [w]) (by simpa using fits) others x (by simpa using hx)

/-- A pass has no room for the first record of the pass that follows it. -/
def PassFull (a b : List Window) : Prop := ∀ w ∈ b.head?, 2048 < passBins a + w.bins

theorem packPasses_chain (current ws : List Window) :
    List.IsChain PassFull (packPasses current (passBins current) ws) := by
  induction ws generalizing current with
  | nil => cases current <;> simp [packPasses]
  | cons w rest ih =>
    by_cases h : passBins current + w.bins ≤ 2048
    · rw [packPasses_join current rest h, ← passBins_append]
      exact ih _
    · have full := Nat.lt_of_not_le h
      have following := ih [w]
      obtain ⟨more, passes, e⟩ := packPasses_head (passBins [w]) rest (List.cons_ne_nil w [])
      rw [packPasses_next current rest full, ← passBins_singleton w]
      rw [e] at following ⊢
      refine List.isChain_cons_cons.mpr ⟨fun x hx => ?_, following⟩
      obtain rfl : w = x := Option.some.inj hx
      exact full

theorem PairState.maySweep_iff {q : PairState} : q.maySweep = true ↔
    (q.role.name = .holder ∨ q.role = .synthetic) ∧ q.det.lossDeclared = false ∧ ∃ r ∈ q.records, r.excluded = false := by
  simp [PairState.maySweep, Role.name_eq_synthetic, and_assoc]

theorem State.planSweep_of_able {s : State} {p : Pair} (hw : (s.pair p).sweep = none)
    (h : (s.pair p).maySweep = true) (await : Bool) :
    s.planSweep await p = s.setPair p { s.pair p with sweep := some ((s.pair p).newSweep await) } := by
  unfold State.planSweep
  dsimp only
  rw [hw, h]
  rfl

theorem State.planSweep_of_unable {s : State} {p : Pair}
    (h : (s.pair p).sweep ≠ none ∨ (s.pair p).maySweep = false) (await : Bool) : s.planSweep await p = s := by
  rcases s.planSweep_cases await p with e | ⟨hw, able, _⟩
  · exact e
  · rcases h with h | h
    · exact absurd hw h
    · cases h.symm.trans able

/-! ### The arbiter (R69) -/

theorem pairNumber_nextPair (p : Pair) : pairNumber (nextPair p) = pairNumber p % 4 + 1 := by cases p <;> rfl

theorem mem_cyclicFrom (start p : Pair) : p ∈ cyclicFrom start := by cases start <;> cases p <;> decide

/-- How many pairs come before a pair in the cyclic order from another. -/
def turnFrom (start p : Pair) : Nat := (pairNumber p + 4 - pairNumber start) % 4

theorem cyclicFrom_turns (start : Pair) :
    (cyclicFrom start).Pairwise fun x y => turnFrom start x < turnFrom start y := by cases start <;> decide

/-- The first ready pair of the cyclic order is the one whose turn is the least. -/
theorem find_cyclicFrom {ready : Pair → Bool} {start p : Pair} (hp : ready p = true)
    (hmin : ∀ x, ready x = true → turnFrom start p ≤ turnFrom start x) : (cyclicFrom start).find? ready = some p := by
  obtain ⟨before, after, e⟩ := List.append_of_mem (mem_cyclicFrom start p)
  have turns := cyclicFrom_turns start
  rw [e] at turns ⊢
  refine find_of_split after (fun x hx => Bool.eq_false_iff.mpr fun hr => ?_) hp
  have earlier := (List.pairwise_append.mp turns).2.2 x hx p (List.mem_cons_self ..)
  exact absurd (hmin x hr) (Nat.not_le.mpr earlier)

theorem PairState.passReady_iff {q : PairState} : q.passReady = true ↔ ∃ w, q.sweep = some w ∧ w.stage = .ready := by
  unfold PairState.passReady
  cases q.sweep <;> simp

/-- An IDLE bank is granted to the ready pair whose turn comes first (R69). -/
theorem State.arbitrate_grants {s : State} {p : Pair} {w : Sweep} (hb : s.bank = .idle) (hw : (s.pair p).sweep = some w)
    (hs : w.stage = .ready)
    (hmin : ∀ x, (s.pair x).passReady = true → turnFrom s.pointer p ≤ turnFrom s.pointer x) :
    s.arbitrate = { s.setPair p { s.pair p with sweep := some { w with stage := .inBank } } with
      bank := .armed (loadPass p (s.pair p).config.periods w.currentPass)
      pointer := nextPair p } := by
  unfold State.arbitrate
  rw [if_pos hb, find_cyclicFrom (PairState.passReady_iff.mpr ⟨w, hw, hs⟩) hmin]
  dsimp only
  unfold State.grant
  dsimp only
  rw [hw]

theorem State.arbitrate_of_none_ready {s : State} (h : ∀ p, (s.pair p).passReady = false) : s.arbitrate = s := by
  rcases s.arbitrate_cases with e | ⟨p, _, _, hf, _⟩
  · exact e
  · have ready : (s.pair p).passReady = true := List.find?_some (p := fun p => (s.pair p).passReady) hf
    cases (h p).symm.trans ready

/-- A pair that is not PASS READY is granted nothing (R69). -/
theorem State.pair_arbitrate_of_not_ready {s : State} {p : Pair} (h : (s.pair p).passReady = false) :
    s.arbitrate.pair p = s.pair p := by
  rcases s.arbitrate_cases with e | ⟨p', w, _, hf, _, e⟩ <;> rw [e]
  refine State.pair_setPair_other s _ ?_
  rintro rfl
  have ready : (s.pair p).passReady = true := List.find?_some (p := fun p => (s.pair p).passReady) hf
  cases h.symm.trans ready

/-- The arbiter begins no pass by itself (R33). -/
theorem State.arbitrate_runs {s : State} (h : s.bank = .idle) (p : Pair) : s.arbitrate.bank.runs p = false := by
  rcases s.arbitrate_cases with e | ⟨_, _, _, _, _, e⟩ <;> rw [e]
  · rw [h]
    rfl
  · rfl

/-! ### The beginning of a pass (R33, R36) -/

theorem exec_passBegin {s : State} {p : Pair} {l : BankLoad} {w : Sweep} (hs : s.inReset = false)
    (hb : s.bank = .armed l) (hl : l.pair = p) (hw : (s.pair p).sweep = some w) (hr : (s.pair p).role ≠ .parked)
    (hc : (s.pair p).clock.chipCycles = 0) (hd : (s.pair p).clock.periodDue = false)
    (h0 : (s.pair p).clock.chip = 0) (ha : w.awaitBoundary = false) :
    exec (.passBegin p) s = .next ({ s with bank := s.bank.begin (s.receptionOn p) } : State).transmit := by
  have due : s.passBeginDue p = true := by
    simp [State.passBeginDue, hb, Bank.armedFor, hl, PairState.atBoundary, Role.name_eq_parked, hr, hc, hd, h0, hw, ha]
  refine (live_running hs (·.passBegin p)).trans ?_
  unfold State.passBegin
  rw [if_pos due]

theorem State.receptionOn_of_no_flight {s : State} (h : ∀ e ∈ s.queue, e.isInFlight = false) (p : Pair) :
    s.receptionOn p = none := by
  have none : s.flight = none := List.find?_eq_none.mpr fun e he => Bool.eq_false_iff.mp (h e he)
  simp [State.receptionOn, none]

theorem State.receptionOn_receiving {s : State} {before after : List QueueEntry} {e : QueueEntry} {c : Captured}
    {times : ReplyTimes} {bits : List Bool} {sum : Int} {n : Nat} (hq : s.queue = before ++ e :: after)
    (hb : ∀ z ∈ before, z.isInFlight = false) (he : e.state = .inFlight c (.receiving times bits sum n)) :
    s.receptionOn e.pair = some e.index := by
  simp [State.receptionOn, State.flight_of_split hq hb (QueueEntry.isInFlight_of_state he), he]

/-- The window of a reply being received is marked, the others stand (R36). -/
theorem BankLoad.disturb_eq (l : BankLoad) (i : Nat) : l.disturb i = { l with windows := l.windows.map fun x => { x with
    disturbed := x.disturbed || decide (x.window.index = i) } } := by
  unfold BankLoad.disturb
  congr 2
  funext x
  by_cases h : x.window.index = i <;> simp [h]

/-! ### The end of a pass (R37, R40, R70, R72) -/

/-- What the delivery of a pass makes of its sweep: to be completed after the last pass, abandoned in YIELDING before it,
PASS READY for the next one otherwise. -/
def Sweep.delivered (w : Sweep) (ms : List WindowMeasurement) (now : LineTime) (role : RoleName) : Option Sweep :=
  if w.passes.length ≤ w.passNo then some { w with held := w.held ++ ms, stage := .completing now }
  else if role = .yielding then none
  else some { w with held := w.held ++ ms, passNo := w.passNo + 1, stage := .ready }

theorem Sweep.deliver_last {w : Sweep} (h : w.passes.length ≤ w.passNo) (ms : List WindowMeasurement) (now : LineTime) :
    w.deliver ms now = { w with held := w.held ++ ms, stage := .completing now } := if_neg (Nat.not_lt.mpr h)

theorem Sweep.deliver_next {w : Sweep} (h : w.passNo < w.passes.length) (ms : List WindowMeasurement) (now : LineTime) :
    w.deliver ms now = { w with held := w.held ++ ms, passNo := w.passNo + 1, stage := .ready } := if_pos h

theorem State.takeDelivery_eq {s : State} {p : Pair} {w : Sweep} (hw : (s.pair p).sweep = some w)
    (ms : List WindowMeasurement) :
    s.takeDelivery p ms = (if w.passNo < w.passes.length ∧ (s.pair p).role.name = .yielding then
      ((s.setPair p { s.pair p with sweep := some (w.deliver ms s.now) }).abandonSweep p).reportLeftBank p
      else s.setPair p { s.pair p with sweep := some (w.deliver ms s.now) }) := by
  unfold State.takeDelivery State.modPair
  rw [hw]
  dsimp only
  rw [State.pair_setPair_same]

/-- With the bank IDLE an abandonment only takes the sweep. -/
theorem State.abandonSweep_of_idle {s : State} {p : Pair} {q : PairState} (hb : s.bank = .idle)
    (hd : q.completionDue = false) : (s.setPair p q).abandonSweep p = s.setPair p { q with sweep := none } := by
  have free : (s.setPair p q).bankWithout p = s.bank := if_neg fun h => by
    rw [State.setPair_bank, hb] at h
    cases h.2
  rw [State.abandonSweep_eq (by rwa [State.pair_setPair_same]), free, State.pair_setPair_same, State.setPair_setPair]
  rfl

/-- The delivery writes the sweep of its pair; a yield that has waited for the pass may end with it. -/
theorem State.takeDelivery_yield {s : State} {p : Pair} {w : Sweep} (hb : s.bank = .idle)
    (hw : (s.pair p).sweep = some w) (ms : List WindowMeasurement) :
    YieldKept p (s.setPair p { s.pair p with sweep := w.delivered ms s.now (s.pair p).role.name })
      (s.takeDelivery p ms) := by
  rw [State.takeDelivery_eq hw]
  unfold Sweep.delivered
  by_cases last : w.passes.length ≤ w.passNo
  · rw [if_pos last, if_neg (fun h => absurd h.1 (Nat.not_lt.mpr last)), Sweep.deliver_last last]
    exact .refl p _
  · have more := Nat.lt_of_not_le last
    rw [if_neg last, Sweep.deliver_next more]
    by_cases yields : (s.pair p).role.name = .yielding
    · rw [if_pos yields, if_pos ⟨more, yields⟩, State.abandonSweep_of_idle hb]
      · exact State.reportLeftBank_yield _ p
      · rfl
    · rw [if_neg yields, if_neg (fun h => yields h.2)]
      exact .refl p _

/-- The state in which the arbiter decides after a pass has ended: the bank IDLE and the measurements delivered. -/
def State.passDelivered (s : State) (p : Pair) (l : BankLoad) : State :=
  ({ s with bank := .idle } : State).takeDelivery p (l.measure (s.pair p).config.length)

theorem exec_passEnd {s : State} {l : BankLoad} {done : Nat} (hs : s.inReset = false) (hb : s.bank = .running l done)
    (hd : l.periods ≤ done) :
    exec (.passEnd l.pair) s = .next (s.passDelivered l.pair l).arbitrate.transmit := by
  refine (live_running hs (·.passEnd l.pair)).trans ?_
  have due : s.bank.passEndDue l.pair = true := by simp [hb, Bank.passEndDue, hd]
  unfold State.passEnd
  rw [if_pos due, hb]
  rfl

/-- Settles O48: the packing by induction on the records (`packPasses_flatten`, `packPasses_fits`, `packPasses_chain`), the
grant by the turns of the pairs (`arbitrate_grants`), and a pass that ends by its delivery (`takeDelivery_yield`). -/
theorem passesBeginAndEnd : Obligations.PassesBeginAndEnd := by
  refine ⟨fun p await s => ?_, fun s => ?_, fun p l w s hs hl hw => ?_⟩
  · intro q able bins
    have may : q.maySweep = true ↔ able := PairState.maySweep_iff
    refine ⟨fun h => State.planSweep_of_unable (h.imp_right fun h => by simpa using mt may.mp h) await, fun hn ha =>
      ⟨_, State.planSweep_of_able hn (may.mpr ha) await, packPasses_flatten .., fun hh => ?_,
        fun before after a rest w e => ?_⟩⟩
    · refine packPasses_fits (current := []) (Nat.zero_le _) fun w hm => ?_
      obtain ⟨r, hr, rfl⟩ := List.mem_map.mp hm
      have := hh r (List.mem_of_mem_filter hr)
      simp only [Window.bins]
      omega
    · have chain := packPasses_chain [] (planWindows q.records)
      rw [show packPasses [] (passBins []) (planWindows q.records) = _ from e] at chain
      exact (List.isChain_append_cons_cons.mp chain).2.1 w rfl
  · intro turn
    refine ⟨fun h => h.elim State.arbitrate_of_busy State.arbitrate_of_none_ready, fun p w hb hw hr hmin => ?_⟩
    exact ⟨nextPair p, pairNumber_nextPair p, State.arbitrate_grants hb hw hr hmin⟩
  · intro q measured
    subst hl
    refine ⟨fun hb hr hc hd h0 ha => ⟨fun hq => ?_, fun before e after c times bits sum n hq hbefore hp he => ?_⟩,
      fun done hb hd => ⟨_, s.passDelivered l.pair l, exec_passEnd hs hb hd, rfl, ?_⟩⟩
    · rw [exec_passBegin hs hb rfl hw hr hc hd h0 ha, State.receptionOn_of_no_flight hq, hb]
      rfl
    · have received : s.receptionOn l.pair = some e.index := hp ▸ State.receptionOn_receiving hq hbefore he
      rw [exec_passBegin hs hb rfl hw hr hc hd h0 ha, received, hb, ← BankLoad.disturb_eq l e.index]
      rfl
    · have kept : YieldKept l.pair _ (s.passDelivered l.pair l) :=
        State.takeDelivery_yield (s := { s with bank := .idle }) rfl hw (l.measure q.config.length)
      have idle : (s.passDelivered l.pair l).bank = .idle := kept.bank
      have others (p' : Pair) (hp : p' ≠ l.pair) : (s.passDelivered l.pair l).pair p' = s.pair p' :=
        (kept.others p' hp).trans (State.pair_setPair_other _ _ hp)
      obtain ⟨_, _, _, _, own⟩ := kept.own
      rw [State.pair_setPair_same] at own
      have sweep : ((s.passDelivered l.pair l).pair l.pair).sweep = w.delivered measured s.now q.role.name := by
        rw [own]
        rfl
      unfold Sweep.delivered at sweep
      have arbitrated := (s.passDelivered l.pair l).arbitrate_kept.pair
      simp only [State.pair_transmit, State.transmit_bank]
      refine ⟨idle, kept.pointer, others, sweep, fun last => ?_, fun more hy alone => ?_, fun more hy => ?_,
        State.arbitrate_runs idle, fun h alone => ?_, ?_, ?_, fun p' hp => others p' hp ▸ arbitrated p'⟩
      · rw [if_pos last] at sweep
        rw [State.pair_arbitrate_of_not_ready (by simp [PairState.passReady, sweep]), sweep]
      · rw [if_neg (Nat.not_le.mpr more), if_neg hy] at sweep
        have granted := State.arbitrate_grants idle sweep rfl fun x hx => by
          by_cases h : x = l.pair
          · rw [h]
          · rw [others x h, alone x h] at hx
            cases hx
        rw [granted]
        refine ⟨?_, ?_⟩
        · exact congrArg PairState.sweep (State.pair_setPair_same _ _ _)
        · show Bank.armed (loadPass _ ((s.passDelivered l.pair l).pair l.pair).config.periods _) = _
          rw [own]
          rfl
      · rw [if_neg (Nat.not_le.mpr more), if_pos hy] at sweep
        rw [State.pair_arbitrate_of_no_sweep sweep, sweep]
      · have unready : ((s.passDelivered l.pair l).pair l.pair).passReady = false := by
          unfold PairState.passReady
          rw [sweep]
          rcases h with h | h
          · rw [if_pos h]
            rfl
          · by_cases last : w.passes.length ≤ w.passNo
            · rw [if_pos last]
              rfl
            · rw [if_neg last, if_pos h]
        rw [State.arbitrate_of_none_ready fun x => ?_, idle]
        by_cases hx : x = l.pair
        · rw [hx, unready]
        · rw [others x hx, alone x hx]
      · rw [(arbitrated l.pair).records, own]
        rfl
      · rw [(arbitrated l.pair).published, own]
        rfl

end Sys2Proof.Machine
end

section
/-! The judgement of a record at a completion (R53 to R62): the lock state machine, tracking, and what a VALID measurement
makes of a record that is not excluded. -/

namespace Sys2Proof.Machine

/-! ### The lock state machine (R57, R58) -/

/-- The lock state after a VALID measurement, by the state before it (R57). -/
theorem lockStep_lock (lock : LockState) (miss : Nat) (remembered : Option Int) (present : Bool) (delta : Int) :
    (lockStep lock miss remembered present delta).1 = match lock with
      | .search => if present then .candidate else .search
      | .candidate =>
        if present then (if (delta - remembered.getD 0).natAbs ≤ 1 then .locked else .candidate) else .search
      | .locked => if present then .locked else .fading
      | .fading => if present then .locked else if 3 ≤ miss + 1 then .lost else .fading
      | .lost => if present then .candidate else .lost := by
  cases lock <;> cases present
  case candidate.true => exact apply_ite Prod.fst _ _ _
  all_goals rfl

/-- The miss that makes a LOCKED record FADING, and what a FADING one counts (R57). -/
theorem lockStep_misses (lock : LockState) (miss : Nat) (remembered : Option Int) (present : Bool) (delta : Int) :
    (lock = .locked → present = false → (lockStep lock miss remembered present delta).2.1 = 1)
      ∧ (lock = .fading → (lockStep lock miss remembered present delta).2.1 = if present then 0 else miss + 1) := by
  refine ⟨?_, ?_⟩
  · rintro rfl rfl
    rfl
  · rintro rfl
    cases present <;> rfl

/-- Only a present echo leads to LOCKED (R57). -/
theorem present_of_lockStep_locked {lock : LockState} {miss : Nat} {remembered : Option Int} {present : Bool} {delta : Int}
    (h : (lockStep lock miss remembered present delta).1 = .locked) : present = true := by
  rw [lockStep_lock] at h
  cases present
  · cases lock <;> simp at h
    split at h <;> cases h
  · rfl

/-- A CANDIDATE remembers the offset that made it one (R57). -/
theorem lockStep_remembered {lock : LockState} {miss : Nat} {remembered : Option Int} {present : Bool} {delta : Int}
    (h : (lockStep lock miss remembered present delta).1 = .candidate) :
    (lockStep lock miss remembered present delta).2.2 = some delta := by
  cases lock <;> cases present
  case search.true | lost.true => rfl
  case candidate.true =>
    by_cases near : (delta - remembered.getD 0).natAbs ≤ 1
    · simp [lockStep, near] at h
    · simp [lockStep, near]
  case fading.false =>
    rw [lockStep_lock] at h
    simp only [Bool.false_eq_true, if_false] at h
    split at h <;> cases h
  all_goals cases h

/-! ### The judgement of a record (R53 to R62) -/

/-- Tracking writes the track sign, the centre and the drift mark alone (R59). -/
theorem RepeaterRecord.track_eq (r : RepeaterRecord) (t : Nat) (delta : Int) : r.track t delta = { r with
    trackSign := (r.track t delta).trackSign, centre := (r.track t delta).centre
    driftReached := (r.track t delta).driftReached } := by
  unfold RepeaterRecord.track
  split
  · rfl
  · split <;> rfl

section
variable (r : RepeaterRecord) {t : Nat} {delta : Int}

theorem RepeaterRecord.track_near (h : delta.natAbs < t) :
    r.track t delta = { r with trackSign := .unset } ∧ r.trackClamps t delta = false :=
  ⟨if_pos h, by simp [RepeaterRecord.trackClamps, h]⟩

theorem RepeaterRecord.track_turned (h : t ≤ delta.natAbs) (hs : r.trackSign ≠ signOf delta) :
    r.track t delta = { r with trackSign := signOf delta } ∧ r.trackClamps t delta = false :=
  ⟨(if_neg (Nat.not_lt.mpr h)).trans (if_neg hs), by simp [RepeaterRecord.trackClamps, hs]⟩

theorem RepeaterRecord.track_again (h : t ≤ delta.natAbs) (hs : r.trackSign = signOf delta) :
    r.track t delta = { r.moveCentre delta with trackSign := .unset }
      ∧ r.trackClamps t delta = (r.moveCentre delta).driftReached :=
  ⟨(if_neg (Nat.not_lt.mpr h)).trans (if_pos hs), by simp [RepeaterRecord.trackClamps, h, hs]⟩

end

section
variable {r : RepeaterRecord} {default t : Nat} {m : WindowMeasurement}

/-- Whether a measurement reaches the record's presence threshold (R55). -/
def RepeaterRecord.isPresent (r : RepeaterRecord) (default : Nat) (m : WindowMeasurement) : Bool :=
  decide ((r.presence.getD default : Int) ≤ m.ap)

/-- The lock state machine's step of a record for a VALID measurement (R57). -/
def RepeaterRecord.lockAfter (r : RepeaterRecord) (default : Nat) (m : WindowMeasurement) :
    LockState × Nat × Option Int := lockStep r.lock r.missCount r.remembered (r.isPresent default m) m.delta

/-- The record with the measurement received and its lock step taken, before tracking (R53, R57). -/
def RepeaterRecord.relocked (r : RepeaterRecord) (default : Nat) (m : WindowMeasurement) : RepeaterRecord :=
  { r.receive m with
    lock := (r.lockAfter default m).1, missCount := (r.lockAfter default m).2.1
    remembered := (r.lockAfter default m).2.2 }

/-- The outcome that a VALID measurement gives the record (R61). -/
def RepeaterRecord.outcomeAfter (r : RepeaterRecord) (default : Nat) (m : WindowMeasurement) : EchoOutcome :=
  outcomeOf (r.lockAfter default m).1 (ratioOf m.ap r.baseline) r.lowRatio r.highRatio

/-- A measurement that is not VALID, or of an excluded record, is received and judged no further (R54, R55). -/
theorem RepeaterRecord.judge_received (h : r.excluded = true ∨ m.validity ≠ .valid) : r.judge default t (some m) =
    ⟨r.receive m, .unknown, !r.excluded && decide (m.validity = .overrange), false⟩ := by
  have kept : (r.receive m).excluded = r.excluded := rfl
  unfold RepeaterRecord.judge
  dsimp only
  cases hx : r.excluded
  · have other : m.validity ≠ .valid := h.resolve_left (by simp [hx])
    rw [kept, hx]
    cases hv : m.validity with
    | valid => exact absurd hv other
    | _ => rfl
  · rw [kept, hx]
    rfl

/-- A VALID measurement of a record that leaves it in another state than LOCKED (R57, R58). -/
theorem RepeaterRecord.judge_unlocked (hx : r.excluded = false) (hv : m.validity = .valid)
    (hl : (r.lockAfter default m).1 ≠ .locked) : r.judge default t (some m) =
      ⟨{ r.relocked default m with
          trackSign := .unset, history := pushHistory r.history (r.outcomeAfter default m) },
        r.outcomeAfter default m, false, false⟩ := by
  have tracked : (r.receive m).lockAndTrack default t m.ap m.delta
      = ({ r.relocked default m with trackSign := .unset }, false) := if_neg hl
  have kept : (r.receive m).excluded = r.excluded := rfl
  unfold RepeaterRecord.judge
  dsimp only
  rw [kept, hx, hv, tracked]
  rfl

/-- The record as tracking finds it after a measurement that leaves it LOCKED (R58, R59). -/
def RepeaterRecord.sighted (r : RepeaterRecord) (default : Nat) (m : WindowMeasurement) : RepeaterRecord :=
  { r.relocked default m with lastLockedAmp := some m.ap }

/-- A VALID measurement that leaves the record LOCKED is present and tracked (R57, R59). -/
theorem RepeaterRecord.judge_locked (hx : r.excluded = false) (hv : m.validity = .valid)
    (hl : (r.lockAfter default m).1 = .locked) : r.judge default t (some m) =
      ⟨{ r.sighted default m with
          trackSign := ((r.sighted default m).track t m.delta).trackSign
          centre := ((r.sighted default m).track t m.delta).centre
          driftReached := ((r.sighted default m).track t m.delta).driftReached
          history := pushHistory r.history (r.outcomeAfter default m) },
        r.outcomeAfter default m, false, (r.sighted default m).trackClamps t m.delta⟩ := by
  have present : r.isPresent default m = true := present_of_lockStep_locked hl
  have tracked : (r.receive m).lockAndTrack default t m.ap m.delta
      = ((r.sighted default m).track t m.delta, (r.sighted default m).trackClamps t m.delta) :=
    (if_pos hl).trans (if_pos present)
  have kept : (r.receive m).excluded = r.excluded := rfl
  unfold RepeaterRecord.judge
  dsimp only
  rw [kept, hx, hv, tracked]
  dsimp only
  rw [RepeaterRecord.track_eq]
  rfl

end

/-- The history takes a known outcome and passes over UNKNOWN (R62). -/
theorem pushHistory_eq (h : List EchoOutcome) (o : EchoOutcome) :
    pushHistory h o = if o = .unknown then h else (o :: h).take 16 := by cases o <;> rfl

/-- Settles O52: a record that a VALID measurement leaves outside LOCKED (`judge_unlocked`) or in it (`judge_locked`), which
tracking then moves or not by the offset and its sign (`track_near`, `track_turned`, `track_again`). -/
theorem recordIsJudged : Obligations.RecordIsJudged := by
  refine ⟨fun r default t => rfl, fun r default t m => ?_⟩
  intro j ratio taken
  by_cases h : r.excluded = true ∨ m.validity ≠ .valid
  · have received : j = ⟨taken, .unknown, !r.excluded && decide (m.validity = .overrange), false⟩ :=
      RepeaterRecord.judge_received h
    refine ⟨by rw [received]; exact ⟨rfl, rfl⟩, fun _ => received, fun hx hv => ?_⟩
    rcases h with h | h
    · cases hx.symm.trans h
    · exact absurd hv h
  · obtain ⟨hx, hv⟩ : r.excluded = false ∧ m.validity = .valid := by simpa using h
    have stepped := lockStep_lock r.lock r.missCount r.remembered (r.isPresent default m) m.delta
    obtain ⟨missedOnce, missed⟩ :=
      lockStep_misses r.lock r.missCount r.remembered (r.isPresent default m) m.delta
    have history := pushHistory_eq r.history (r.outcomeAfter default m)
    by_cases hl : (r.lockAfter default m).1 = .locked
    · have judged : j = _ := RepeaterRecord.judge_locked hx hv hl
      rw [judged]
      refine ⟨⟨rfl, rfl⟩, fun h' => absurd h' h, fun _ _ => ?_⟩
      intro present sign moved low high
      refine ⟨stepped.trans rfl, lockStep_remembered, missedOnce, missed, rfl, history, fun h' => absurd hl h',
        fun _ => rfl, fun _ near => ?_, fun _ far turned => ?_, fun _ far again => ?_⟩
      · obtain ⟨tracked, clamps⟩ := (r.sighted default m).track_near near
        rw [tracked, clamps]
        exact ⟨rfl, rfl, rfl⟩
      · obtain ⟨tracked, clamps⟩ := (r.sighted default m).track_turned far turned
        rw [tracked, clamps]
        exact ⟨rfl, rfl, rfl⟩
      · obtain ⟨tracked, clamps⟩ := (r.sighted default m).track_again far again
        rw [tracked, clamps]
        exact ⟨rfl, rfl, rfl, rfl⟩
    · have judged : j = _ := RepeaterRecord.judge_unlocked hx hv hl
      rw [judged]
      refine ⟨⟨rfl, rfl⟩, fun h' => absurd h' h, fun _ _ => ?_⟩
      intro present sign moved low high
      exact ⟨stepped.trans rfl, lockStep_remembered, missedOnce, missed, rfl, history, fun _ => ⟨rfl, rfl, rfl, rfl⟩,
        fun h' => absurd h' hl, fun h' => absurd h' hl, fun h' => absurd h' hl, fun h' => absurd h' hl⟩

end Sys2Proof.Machine
end

section
/-! LOAD REPEATERS (R42 to R46, R97): its refusals in order, and what a taken load stores and removes. -/

namespace Sys2Proof.Machine

/-! ### A flag set on a condition (R173) -/

theorem State.setPairFlagIf_get_same (s : State) (b : Bool) (p : Pair) (k : PairFlag) :
    ((s.setPairFlagIf b p k).port.flags.pairs.get p).get k = ((s.port.flags.pairs.get p).get k || b) := by
  unfold State.setPairFlagIf
  cases b <;> simp

@[simp] theorem State.setPairFlagIf_faults (s : State) (b : Bool) (p : Pair) (k : PairFlag) :
    (s.setPairFlagIf b p k).faults = s.faults := by
  unfold State.setPairFlagIf
  split <;> rfl

@[simp] theorem State.setPairFlagIf_nextFaultId (s : State) (b : Bool) (p : Pair) (k : PairFlag) :
    (s.setPairFlagIf b p k).nextFaultId = s.nextFaultId := by
  unfold State.setPairFlagIf
  split <;> rfl

@[simp] theorem State.replied_nextFaultId (s : State) (typ tag : Byte) (data : List Byte) :
    (s.replied typ tag data).nextFaultId = s.nextFaultId := State.transmit_nextFaultId _

/-! ### The checks (R43) -/

theorem exec_loadRepeaters {tag first : Byte} {p : Pair} {ls : List LoadRecord} {s t : State} {a : Answer} (hs : s.Ready)
    (hl : ls.length ≤ 16) (ho : ownLoadRepeaters (pairByte p) first ls s = (t, a)) :
    exec (.loadRepeaters tag (pairByte p) first ls) s = .next (t.replied 0xA0 tag (a.status.code :: a.data)) :=
  (exec_answers (r := .loadRepeaters (pairByte p) first ls) hs rfl (by simp [Request.fits, hl]) ho).trans rfl

section
variable {p : Pair} {first : Byte} {ls : List LoadRecord} {s : State}

theorem ownLoadRepeaters_wrongState (hr : ¬((s.pair p).role = .parked ∨ (s.pair p).role = .listen)) :
    ownLoadRepeaters (pairByte p) first ls s = (s, .refused .wrongState) := by
  unfold ownLoadRepeaters
  rw [withPair_pairByte]
  exact if_pos (Role.name_ne_iff.mpr hr)

variable (hr : (s.pair p).role = .parked ∨ (s.pair p).role = .listen)
include hr

theorem ownLoadRepeaters_badIndex (h : (first.toNat ≠ 1 ∧ first.toNat ≠ (s.pair p).records.length + 1)
    ∨ (ls = [] ∧ first.toNat ≠ 1)) : ownLoadRepeaters (pairByte p) first ls s = (s, .refused .badValue) := by
  unfold ownLoadRepeaters
  rw [withPair_pairByte]
  dsimp only
  rw [if_neg (mt Role.name_ne_iff.mp (not_not.mpr hr))]
  by_cases hf : first.toNat ≠ 1 ∧ first.toNat ≠ (s.pair p).records.length + 1
  · rw [if_pos hf]
  · rw [if_neg hf, if_pos (h.resolve_left hf)]

variable (hi : first.toNat = 1 ∨ (first.toNat = (s.pair p).records.length + 1 ∧ ls ≠ []))
include hi

/-- Past the checks of the first index the records decide (R43, R44). -/
theorem ownLoadRepeaters_checked : ownLoadRepeaters (pairByte p) first ls s =
    (firstBadRecord (s.pair p).config.length first.toNat
      (if first.toNat = 1 then none else lastLag (s.pair p).records) ls).elim
      (s.storeRecords p (first.toNat = 1) ls,
        .ok (u8 ((s.storeRecords p (first.toNat = 1) ls).pair p).records.length))
      fun x => (s, .refused .badValue x.1 x.2) := by
  have known : ¬(first.toNat ≠ 1 ∧ first.toNat ≠ (s.pair p).records.length + 1) := by
    rintro ⟨h1, hn⟩
    exact hi.elim h1 fun h => hn h.1
  have carried : ¬(ls = [] ∧ first.toNat ≠ 1) := by
    rintro ⟨h0, h1⟩
    exact hi.elim h1 fun h => h.2 h0
  unfold ownLoadRepeaters
  rw [withPair_pairByte]
  dsimp only
  rw [if_neg (mt Role.name_ne_iff.mp (not_not.mpr hr)), if_neg known, if_neg carried]
  split
  next hb => rw [hb, Option.elim_some]
  next hb => rw [hb, Option.elim_none]

theorem ownLoadRepeaters_badRecord {x : Byte × Byte} (hb : firstBadRecord (s.pair p).config.length first.toNat
      (if first.toNat = 1 then none else lastLag (s.pair p).records) ls = some x) :
    ownLoadRepeaters (pairByte p) first ls s = (s, .refused .badValue x.1 x.2) := by
  rw [ownLoadRepeaters_checked hr hi, hb]
  rfl

theorem ownLoadRepeaters_taken (hb : firstBadRecord (s.pair p).config.length first.toNat
      (if first.toNat = 1 then none else lastLag (s.pair p).records) ls = none) :
    ownLoadRepeaters (pairByte p) first ls s = (s.storeRecords p (first.toNat = 1) ls,
      .ok (u8 ((s.storeRecords p (first.toNat = 1) ls).pair p).records.length)) := by
  rw [ownLoadRepeaters_checked hr hi, hb]
  rfl

end

/-! ### What a taken load stores (R45, R46) -/

section
variable (s : State) (p : Pair) (ls : List LoadRecord)

theorem State.storeRecords_appends : s.storeRecords p false ls = s.setPair p { s.pair p with
    records := (s.pair p).records ++ ls.map RepeaterRecord.ofLoad } := rfl

theorem State.storeRecords_replaces : s.storeRecords p true ls = (s.removeFaults p).modPair p fun q =>
    { q.forgetResults with records := ls.map RepeaterRecord.ofLoad } := rfl

theorem State.pair_storeRecords_same : (s.storeRecords p true ls).pair p = { (s.pair p).forgetResults with
    records := ls.map RepeaterRecord.ofLoad } := by
  rw [State.storeRecords_replaces, State.pair_modPair_same, (s.removeFaults_kept p).pair]

theorem State.pair_storeRecords_other {p' : Pair} (h : p' ≠ p) : (s.storeRecords p true ls).pair p' = s.pair p' := by
  rw [State.storeRecords_replaces, State.pair_modPair_other _ _ h, (s.removeFaults_kept p).pair]

/-- The faults of the pair go with its list, and no other (R46, R97). -/
theorem State.storeRecords_faults :
    (s.storeRecords p true ls).faults = s.faults.filter (fun r => decide (r.pair ≠ p))
      ∧ (s.storeRecords p true ls).nextFaultId = s.nextFaultId := by
  constructor
  · exact State.setPairFlagIf_faults _ _ p .faultChange
  · exact State.setPairFlagIf_nextFaultId _ _ p .faultChange

theorem State.storeRecords_faultChange :
    ((s.storeRecords p true ls).port.flags.pairs.get p).get .faultChange
      = ((s.port.flags.pairs.get p).get .faultChange || s.faults.any fun r => decide (r.pair = p)) :=
  State.setPairFlagIf_get_same _ _ p .faultChange

theorem State.storeRecords_replies (b : Bool) : (s.storeRecords p b ls).port.replies = s.port.replies := by
  cases b
  · rfl
  · exact (s.removeFaults_kept p).replies

end

/-- Settles O28: the refusals in their order, then a list that is replaced (`pair_storeRecords_same` and the facts after it)
or continued (`storeRecords_appends`). -/
theorem loadRepeatersStoresRecords : Obligations.LoadRepeatersStoresRecords := by
  intro tag first p ls s hs hl q n new
  refine ⟨fun r hr => ?_, fun hp hl' => ?_, fun hr hi => ?_, fun i f hr hi hb => ?_, fun hr hf hn hne hb => ?_,
    fun hr hf hb => ?_⟩
  · obtain ⟨l, -, rfl⟩ := List.mem_map.mp hr
    exact ⟨rfl, rfl, rfl, rfl, rfl⟩
  · exact (exec_loadRepeaters hs hl (ownLoadRepeaters_wrongState (not_or.mpr ⟨hp, hl'⟩))).trans rfl
  · exact (exec_loadRepeaters hs hl (ownLoadRepeaters_badIndex hr hi)).trans rfl
  · exact (exec_loadRepeaters hs hl (ownLoadRepeaters_badRecord hr hi hb)).trans rfl
  · have h1 : first.toNat ≠ 1 := by omega
    have taken := ownLoadRepeaters_taken hr (.inr ⟨hf, hne⟩) (by rw [if_neg h1, hf]; exact hb)
    rw [decide_eq_false h1, State.storeRecords_appends] at taken
    rw [exec_loadRepeaters hs hl taken, State.pair_setPair_same]
    simp [Answer.ok, Status.code, u8, n, q, new]
  · subst hf
    have taken := ownLoadRepeaters_taken (first := 1) hr (.inl rfl) hb
    obtain ⟨faults, nextId⟩ := s.storeRecords_faults p ls
    have own := s.pair_storeRecords_same p ls
    refine ⟨_, exec_loadRepeaters hs hl taken, ?_, ?_, ?_, ?_, ?_, fun p' hp' => ?_⟩
    · rw [State.replied_replies]
      show (s.storeRecords p true ls).port.replies ++ [⟨_, _, 0 :: u8 ((s.storeRecords p true ls).pair p).records.length⟩] = _
      rw [State.storeRecords_replies, own, List.length_map]
      rfl
    · exact (State.pair_replied _ _ _ _ p).trans own
    · exact (State.replied_faults _ _ _ _).trans faults
    · exact (State.replied_nextFaultId _ _ _ _).trans nextId
    · rw [State.replied_flags]
      exact s.storeRecords_faultChange p ls
    · exact (State.pair_replied _ _ _ _ p').trans (s.pair_storeRecords_other p ls hp')

end Sys2Proof.Machine
end

section
/-! EDIT REPEATER (R47, R49, R50): its refusals in order, and what a taken edit makes of its record. -/

namespace Sys2Proof.Machine

/-! ### The record of an index -/

section
variable {rs : List RepeaterRecord} {i : Nat} {f : RepeaterRecord → RepeaterRecord} (hf : ∀ r, (f r).index = r.index)
include hf

/-- An update of the record of an index is found at that index, and changes no other. -/
theorem recordAt_modRecord (j : Nat) :
    recordAt (modRecord rs i f) j = if j = i then (recordAt rs j).map f else recordAt rs j := by
  unfold recordAt modRecord
  induction rs with
  | nil => simp
  | cons r rs ih =>
    have index : (if r.index = i then f r else r).index = r.index := by
      split
      · exact hf r
      · rfl
    simp only [List.map_cons, List.find?_cons, index, ih]
    by_cases hj : r.index = j
    · subst hj
      by_cases hi : r.index = i <;> simp [hi]
    · simp only [beq_eq_false_iff_ne.mpr hj]

end

/-! ### The checks (R47, R185) -/

/-- A yes/no byte reads when it is 0 or 1 (R184). -/
theorem boolOf_isNone (b : Byte) : (boolOf b).isNone = decide (1 < b.toNat) := by
  unfold boolOf
  split
  next h => simp [h]
  next h => simp [h]
  next h0 h1 =>
    have h0 : b.toNat ≠ 0 := h0
    have h1 : b.toNat ≠ 1 := h1
    exact (decide_eq_true (by omega)).symm

/-- What each numbered check of the changes looks at, by field (R47). -/
theorem editChanges_fails (changes : Byte) (low high presence baseline : Half) (excluded : Byte) (n : Nat) :
    (editChanges changes low high presence baseline excluded).fails n = match n with
      | 6 => changes.getLsbD 4 && !decide (1 ≤ baseline.toNat ∧ baseline.toNat ≤ 32767)
      | 7 => changes.getLsbD 0 && !decide (1 ≤ low.toNat ∧ low.toNat ≤ 1023)
      | 8 => changes.getLsbD 1 && !decide (1025 ≤ high.toNat ∧ high.toNat ≤ 65534)
      | 9 => changes.getLsbD 2 && !decide (1 ≤ presence.toNat ∧ presence.toNat ≤ 32767)
      | 10 => changes.getLsbD 5 && decide (1 < excluded.toNat)
      | _ => false := by
  have ranged (b : Bool) (v lo hi : Nat) :
      changeFails lo hi (if b = true then some v else none) = (b && !decide (lo ≤ v ∧ v ≤ hi)) := by
    cases b <;> simp [changeFails, inRange, Bool.decide_and]
  match n with
  | 6 | 7 | 8 => exact ranged _ _ _ _
  | 9 =>
    unfold EditChanges.fails editChanges
    dsimp only
    cases changes.getLsbD 2
    · cases changes.getLsbD 3 <;> rfl
    · simp [inRange, Bool.decide_and]
  | 10 =>
    unfold EditChanges.fails editChanges
    dsimp only
    cases changes.getLsbD 5
    · rfl
    · exact boolOf_isNone excluded
  | 0 | 1 | 2 | 3 | 4 | 5 | n + 11 => rfl

/-- A carried change that lies in its range passes its check. -/
theorem carried_passes {carried : Bool} {range : Prop} [Decidable range] (h : carried = true → range) :
    (carried && !decide range) = false := by
  cases carried
  · rfl
  · simpa using h rfl

/-- The checks look at the fields 6 to 10 (R47). -/
theorem EditChanges.field_of_fails {c : EditChanges} {n : Nat} (h : c.fails n = true) : n ∈ List.range' 6 5 := by
  unfold EditChanges.fails at h
  split at h
  case h_6 => cases h
  all_goals decide

/-- The first change out of range in field order is the one named (R47). -/
theorem EditChanges.find_fails {c : EditChanges} {n : Nat} (hn : c.fails n = true)
    (hmin : ∀ m, m < n → c.fails m = false) : [6, 7, 8, 9, 10].find? c.fails = some n :=
  List.find?_range'_eq_some.mpr ⟨hn, EditChanges.field_of_fails hn, fun m _ hm => by simp [hmin m hm]⟩

section
variable {changes : Byte} {low high presence baseline : Half} {excluded : Byte} {s : State}

theorem exec_editRepeater {tag b i : Byte} {t : State} {a : Answer} (hs : s.Ready)
    (ho : ownEditRepeater b i changes low high presence baseline excluded s = (t, a)) :
    exec (.editRepeater tag b i changes low high presence baseline excluded) s
      = .next (t.replied 0xA1 tag (a.status.code :: a.data)) :=
  (exec_answers (r := .editRepeater b i changes low high presence baseline excluded) hs rfl rfl ho).trans rfl

theorem ownEditRepeater_unnamed (b i : Byte) (h : 64 ≤ changes.toNat) :
    ownEditRepeater b i changes low high presence baseline excluded s = (s, .refused .badValue) := if_pos h

variable (hc : changes.toNat < 64)
include hc

theorem ownEditRepeater_both (b i : Byte) (h : (changes.getLsbD 2 && changes.getLsbD 3) = true) :
    ownEditRepeater b i changes low high presence baseline excluded s = (s, .refused .badValue 0 9) :=
  (if_neg (Nat.not_le.mpr hc)).trans (if_pos h)

variable (h23 : (changes.getLsbD 2 && changes.getLsbD 3) = false) {p : Pair} {i : Byte}
include h23

theorem ownEditRepeater_notFound (hr : recordAt (s.pair p).records i.toNat = none) :
    ownEditRepeater (pairByte p) i changes low high presence baseline excluded s = (s, .refused .notFound) := by
  unfold ownEditRepeater
  rw [if_neg (Nat.not_le.mpr hc), if_neg (Bool.eq_false_iff.mp h23), withPair_pairByte]
  dsimp only
  rw [hr]

variable {r : RepeaterRecord} (hr : recordAt (s.pair p).records i.toNat = some r)
include hr

theorem ownEditRepeater_badValue {n : Nat}
    (hn : [6, 7, 8, 9, 10].find? (editChanges changes low high presence baseline excluded).fails = some n) :
    ownEditRepeater (pairByte p) i changes low high presence baseline excluded s
      = (s, .refused .badValue 0 (BitVec.ofNat 8 n)) := by
  unfold ownEditRepeater
  rw [if_neg (Nat.not_le.mpr hc), if_neg (Bool.eq_false_iff.mp h23), withPair_pairByte]
  dsimp only
  rw [hr, hn]

end

/-! ### A taken edit (R47, R49, R50) -/

/-- The state after a taken edit (R47, R66). -/
def State.edited (s : State) (p : Pair) (i : Nat) (c : EditChanges) : State :=
  let t := s.modPair p fun q => { q with records := modRecord q.records i (·.edit c) }
  if c.excluded = some 0 then t.considerSweep p else t

/-- Everything an edit can make of a record: its pending edits alone, or with the exclusion set, or cleared, which is the
fresh state (R47, R49, R50). -/
theorem RepeaterRecord.edit_cases (r : RepeaterRecord) (c : EditChanges) :
    ((c.excluded = none ∨ (∃ b, c.excluded = some b ∧ b ≠ 1) ∧ r.excluded = false)
      ∧ r.edit c = { r with edits := r.edits.store c })
    ∨ (c.excluded = some 1 ∧ r.edit c = { r with
        edits := r.edits.store c, excluded := true, excludedByMute := r.excludedByMute && !r.excluded })
    ∨ ((∃ b, c.excluded = some b ∧ b ≠ 1) ∧ r.excluded = true
      ∧ r.edit c = { r.fresh with edits := r.edits.store c, excluded := false }) := by
  unfold RepeaterRecord.edit
  cases hc : c.excluded with
  | none => exact .inl ⟨.inl rfl, rfl⟩
  | some b =>
    dsimp only
    by_cases hb : b = 1
    · rw [if_pos hb]
      refine .inr (.inl ⟨congrArg some hb, ?_⟩)
      unfold RepeaterRecord.exclude
      cases hx : r.excluded <;> simp
    · rw [if_neg hb]
      unfold RepeaterRecord.restore
      cases hx : r.excluded
      · exact .inl ⟨.inr ⟨⟨b, rfl, hb⟩, rfl⟩, rfl⟩
      · exact .inr (.inr ⟨⟨b, rfl, hb⟩, rfl, rfl⟩)

@[simp] theorem RepeaterRecord.edit_index (r : RepeaterRecord) (c : EditChanges) : (r.edit c).index = r.index := by
  rcases r.edit_cases c with ⟨_, e⟩ | ⟨_, e⟩ | ⟨_, _, e⟩ <;> rw [e]
  rfl

/-- An edit writes the records of its pair; the pair may begin a sweep (R47, R66). -/
theorem State.edited_kept (s : State) (p : Pair) (i : Nat) (c : EditChanges) :
    LineKept (s.modPair p fun q => { q with records := modRecord q.records i (·.edit c) }) (s.edited p i c) := by
  unfold State.edited
  dsimp only
  split
  · exact State.considerSweep_kept _ p
  · exact .refl _

theorem State.recordAt_edited (s : State) (p : Pair) (i : Nat) (c : EditChanges) (j : Nat) :
    recordAt ((s.edited p i c).pair p).records j
      = if j = i then (recordAt (s.pair p).records j).map (·.edit c) else recordAt (s.pair p).records j := by
  rw [((s.edited_kept p i c).pair p).records, State.pair_modPair_same]
  exact recordAt_modRecord (fun r => r.edit_index c) j

theorem ownEditRepeater_taken {changes : Byte} {low high presence baseline : Half} {excluded : Byte} {s : State}
    (hc : changes.toNat < 64) (h23 : (changes.getLsbD 2 && changes.getLsbD 3) = false) {p : Pair} {i : Byte}
    {r : RepeaterRecord} (hr : recordAt (s.pair p).records i.toNat = some r) {c : EditChanges}
    (hec : editChanges changes low high presence baseline excluded = c) (hn : [6, 7, 8, 9, 10].find? c.fails = none) :
    ownEditRepeater (pairByte p) i changes low high presence baseline excluded s
      = (s.edited p i.toNat c, .ok ((r.edit c).encode ++ (r.edit c).edits.encode)) := by
  have found := s.recordAt_edited p i.toNat c i.toNat
  rw [if_pos rfl, hr, Option.map_some] at found
  unfold ownEditRepeater
  rw [if_neg (Nat.not_le.mpr hc), if_neg (Bool.eq_false_iff.mp h23), withPair_pairByte]
  dsimp only
  rw [hr, hec, hn]
  dsimp only
  unfold State.edited at found ⊢
  dsimp only at found ⊢
  rw [found]

/-- Every carried value becomes the pending edit of its field, and the field itself stands (R47). -/
theorem RepeaterRecord.edit_stores (r : RepeaterRecord) (c : EditChanges) :
    (r.edit c).edits = r.edits.store c ∧ (r.edit c).lowRatio = r.lowRatio ∧ (r.edit c).highRatio = r.highRatio
      ∧ (r.edit c).presence = r.presence ∧ (r.edit c).baseline = r.baseline := by
  rcases r.edit_cases c with ⟨_, e⟩ | ⟨_, e⟩ | ⟨_, _, e⟩ <;> rw [e] <;> exact ⟨rfl, rfl, rfl, rfl, rfl⟩

/-- The exclusion that an edit carries acts at once: set it keeps the rest of the record, cleared it takes the fresh state,
and a setting that stands already changes nothing that is judged (R49, R50). -/
theorem RepeaterRecord.edit_excluded (r : RepeaterRecord) {c : EditChanges} {carried : Bool} {x : Byte}
    (hc : c.excluded = if carried = true then some x else none) (hx : carried = true → x.toNat ≤ 1) :
    (r.edit c).excluded = (if carried then x == 1 else r.excluded)
    ∧ if carried && x == 0 && r.excluded then
        (r.edit c).lock = .search ∧ (r.edit c).centre = r.nominalLag ∧ (r.edit c).history = []
          ∧ (r.edit c).last = none ∧ (r.edit c).excludedByMute = false
      else (r.edit c).lock = r.lock ∧ (r.edit c).centre = r.centre ∧ (r.edit c).history = r.history
          ∧ (r.edit c).last = r.last := by
  cases carried
  · rcases r.edit_cases c with ⟨_, e⟩ | ⟨h, _⟩ | ⟨⟨_, h, _⟩, _⟩
    · rw [e]
      exact ⟨rfl, rfl, rfl, rfl, rfl⟩
    all_goals cases h.symm.trans hc
  · have small := hx rfl
    obtain rfl | rfl : x = 0 ∨ x = 1 := by bv_omega
    · rcases r.edit_cases c with ⟨h | ⟨_, he⟩, e⟩ | ⟨h, _⟩ | ⟨_, he, e⟩
      · cases h.symm.trans hc
      · rw [e, he]
        exact ⟨rfl, rfl, rfl, rfl, rfl⟩
      · cases h.symm.trans hc
      · rw [e, he]
        exact ⟨rfl, rfl, rfl, rfl, rfl, rfl⟩
    · rcases r.edit_cases c with ⟨h | ⟨⟨b, h, hb⟩, _⟩, _⟩ | ⟨_, e⟩ | ⟨⟨b, h, hb⟩, _⟩
      · cases h.symm.trans hc
      · exact absurd (Option.some.inj (h.symm.trans hc)) hb
      · rw [e]
        exact ⟨rfl, rfl, rfl, rfl, rfl⟩
      · exact absurd (Option.some.inj (h.symm.trans hc)) hb

theorem PendingEdits.store_eq (e : PendingEdits) (changes : Byte) (low high presence baseline : Half) (excluded : Byte) :
    e.store (editChanges changes low high presence baseline excluded) = {
      low := if changes.getLsbD 0 then some low.toNat else e.low
      high := if changes.getLsbD 1 then some high.toNat else e.high
      presence := if changes.getLsbD 2 then some (some presence.toNat)
        else if changes.getLsbD 3 then some none else e.presence
      baseline := if changes.getLsbD 4 then some baseline.toNat else e.baseline } := by
  have newer_ite {α : Type} (b : Bool) (v : α) (old : Option α) :
      newer (if b = true then some v else none) old = if b = true then some v else old := by cases b <;> rfl
  unfold PendingEdits.store editChanges
  dsimp only
  rw [newer_ite, newer_ite, newer_ite]
  congr 1
  cases changes.getLsbD 2
  · exact newer_ite _ _ _
  · rfl

/-- Settles O29: the refusals in their order (`editChanges_fails` says what each numbered check looks at), and a taken edit
by what it makes of its record (`edit_stores`, `edit_excluded`) and leaves of the others (`recordAt_edited`). -/
theorem editRepeaterStoresEdits : Obligations.EditRepeaterStoresEdits := by
  refine ⟨fun tag b i changes low high presence baseline excluded s hs => ?_,
    fun tag i changes low high presence baseline excluded p r s hs hc h23 hr hlow hhigh hpresence hbaseline hexcluded => ?_⟩
  · intro edit fails
    have checks : (editChanges changes low high presence baseline excluded).fails = fails :=
      funext fun n => editChanges_fails changes low high presence baseline excluded n
    refine ⟨fun h => (exec_editRepeater hs (ownEditRepeater_unnamed b i h)).trans rfl,
      fun hc h => (exec_editRepeater hs (ownEditRepeater_both hc b i h)).trans rfl, fun p hc h23 hb => ?_⟩
    subst hb
    refine ⟨fun hr => (exec_editRepeater hs (ownEditRepeater_notFound hc h23 hr)).trans rfl, fun n hr hn hmin => ?_⟩
    obtain ⟨r, hr⟩ := Option.ne_none_iff_exists'.mp hr
    have first := EditChanges.find_fails (by rwa [checks]) (by rwa [checks])
    exact (exec_editRepeater hs (ownEditRepeater_badValue hc h23 hr first)).trans rfl
  · obtain ⟨c, carried⟩ : ∃ c, editChanges changes low high presence baseline excluded = c := ⟨_, rfl⟩
    have within : [6, 7, 8, 9, 10].find? c.fails = none := by
      refine List.find?_eq_none.mpr fun n hn => Bool.eq_false_iff.mp ?_
      rw [← carried, editChanges_fails]
      simp only [List.mem_cons, List.not_mem_nil, or_false] at hn
      rcases hn with rfl | rfl | rfl | rfl | rfl
      · exact carried_passes hbaseline
      · exact carried_passes hlow
      · exact carried_passes hhigh
      · exact carried_passes hpresence
      · simpa using hexcluded
    have taken := ownEditRepeater_taken hc h23 hr carried within
    have found := s.recordAt_edited p i.toNat c
    have kept := s.edited_kept p i.toNat c
    obtain ⟨edits, lowRatio, highRatio, presenceKept, baselineKept⟩ := r.edit_stores c
    obtain ⟨exclusion, rest⟩ := r.edit_excluded (congrArg EditChanges.excluded carried).symm hexcluded
    rw [← carried, PendingEdits.store_eq, carried] at edits
    refine ⟨_, _, exec_editRepeater hs taken, ?_, ?_, ?_, ?_, ?_, ?_, lowRatio, highRatio, presenceKept, baselineKept,
      exclusion, rest, fun j hj => ?_, fun p' hp' => ?_⟩
    · rw [State.replied_replies, kept.replies]
      rfl
    · rw [State.pair_replied, found, if_pos rfl, hr]
      rfl
    · rw [edits]
    · rw [edits]
    · rw [edits]
    · rw [edits]
    · rw [State.pair_replied, found, if_neg hj]
    · rw [State.pair_replied]
      have other := kept.pair p'
      rwa [State.pair_modPair_other _ _ hp'] at other

end Sys2Proof.Machine
end

section
/-! Stage 2 of a completion (R106 to R110): what suspends a sweep, what a counted one adds, and how a run ends. -/

namespace Sys2Proof.Machine

/-! ### What a sweep means to a run (R106 to R108) -/

/-- A CONDITIONAL run is suspended by an open record of the pair that is not ISOLATED (R106). -/
theorem State.learnSuspended_eq (s : State) (p : Pair) (mode : LearnMode) :
    s.learnSuspended p mode = (decide (mode = .conditional) && s.faults.any fun r => decide (r.pair = p)
      && decide (r.state ∈ [FaultState.suspect, .confirmed, .acting, .unresolved])) := by
  have suspends (x : FaultState) : x.suspends = decide (x ∈ [FaultState.suspect, .confirmed, .acting, .unresolved]) := by
    cases x <;> rfl
  cases mode
  · simp only [State.learnSuspended, suspends]
    rfl
  · rfl

/-- A record whose measurement is VALID, present and LOCKED contributes it (R107). -/
theorem RepeaterRecord.learn_eq (r : RepeaterRecord) (default : Nat) (ms : List WindowMeasurement) :
    r.learn default ms = match ms.find? (fun x => x.index == r.index) with
      | some m =>
        if r.excluded = false ∧ m.validity = .valid ∧ (r.presence.getD default : Int) ≤ m.ap ∧ r.lock = .locked then
          { r with learnSum := r.learnSum + m.ap.toNat, learnCount := r.learnCount + 1 }
        else r
      | none => r := by
  have named : measurementOf ms r.index = ms.find? (fun x => x.index == r.index) := rfl
  unfold RepeaterRecord.learn
  rw [named]
  cases ms.find? (fun x => x.index == r.index) with
  | none => rfl
  | some m => simp [RepeaterRecord.contributes, and_assoc]

/-! ### The stage -/

section
variable {s : State} {p : Pair}

theorem State.learningStage_idle (h : (s.pair p).learn = .idle) (ms : List WindowMeasurement) (number : BitVec 48)
    (stamp : LineTime) : s.learningStage p ms number stamp = s := by
  unfold State.learningStage
  rw [h]

variable {mode : LearnMode} {target counted suspended : Nat}
  (h : (s.pair p).learn = .active mode target counted suspended) (ms : List WindowMeasurement) (number : BitVec 48)
  (stamp : LineTime)
include h

theorem State.learningStage_suspended (hs : s.learnSuspended p mode = true) (hl : suspended + 1 ≠ 2 * target) :
    s.learningStage p ms number stamp
      = s.setPair p { s.pair p with learn := .active mode target counted (suspended + 1) } := by
  unfold State.learningStage
  rw [h]
  dsimp only
  rw [if_pos hs, if_neg hl]
  rfl

/-- The last suspended sweep that a run may meet abandons it (R106, R110). -/
theorem State.learningStage_abandoned (hs : s.learnSuspended p mode = true) (hl : suspended + 1 = 2 * target) :
    s.learningStage p ms number stamp = (s.setPair p { s.pair p with
      learn := .idle, records := (s.pair p).records.map RepeaterRecord.clearLearn, hold := false
      lastLearn := .abandoned .suspended (s.pair p).sweepNumber s.now }).setPairFlag p .learnDone := by
  have counting : ((s.modPair p fun q => { q with learn := .active mode target counted (suspended + 1) }).pair p).learn
      ≠ .idle := by simp
  unfold State.learningStage
  rw [h]
  dsimp only
  rw [if_pos hs, if_pos hl]
  unfold State.abandonLearning
  rw [if_neg counting, State.modPair_modPair]
  rfl

theorem State.learningStage_counted (hs : s.learnSuspended p mode = false) (hl : counted + 1 ≠ target) :
    s.learningStage p ms number stamp = s.setPair p { s.pair p with
      learn := .active mode target (counted + 1) suspended
      records := (s.pair p).records.map (·.learn (s.pair p).config.presence ms) } := by
  unfold State.learningStage State.countSweep
  rw [h]
  dsimp only
  rw [if_neg (Bool.eq_false_iff.mp hs), if_neg hl]
  rfl

/-- The last sweep that a run counts finishes it (R108). -/
theorem State.learningStage_finished (hs : s.learnSuspended p mode = false) (hl : counted + 1 = target) :
    s.learningStage p ms number stamp =
      (let learned := (s.pair p).records.map (·.learn (s.pair p).config.presence ms)
      let replaced := (learned.filter fun r => decide (r.learnCount = target)).length
      (s.setPair p { s.pair p with
        learn := .idle
        lastLearn := .finished number stamp replaced (learned.length - replaced)
        records := learned.map (·.finishLearn target) }).setPairFlag p .learnDone) := by
  unfold State.learningStage State.countSweep
  rw [h]
  dsimp only
  rw [if_neg (Bool.eq_false_iff.mp hs), if_pos hl]
  unfold State.finishLearning
  rw [State.modPair_modPair]
  rfl

end

end Sys2Proof.Machine
end

section
/-! Stage 3 of a completion (R83, R92, R97): the marks of masked records, the judgement of the fault list, and the records
that are named for stage 4. -/

namespace Sys2Proof.Machine

/-- A list changes under a map exactly when some element does. -/
theorem any_ne_eq_decide_map_ne {α β : Type} [DecidableEq β] (f g : α → β) (xs : List α) :
    (xs.any fun x => decide (f x ≠ g x)) = decide (xs.map f ≠ xs.map g) := by
  rw [Bool.eq_iff_iff, List.any_eq_true, decide_eq_true_iff, Ne, List.map_inj_left]
  simp

/-- The marks that the open BREAK records of a pair set on its open records (R92). -/
def faultsMarked (p : Pair) (rs : List FaultRecord) : List FaultRecord :=
  rs.map fun r => if r.pair = p ∧ r.state ≠ .cleared then
    { r with masked := rs.any (fun b => decide (b.pair = p) && decide (b.state ≠ .cleared)
        && decide (b.cls = .break) && decide (b.first < r.first)) }
  else r

theorem FaultRecord.isOpen_iff {r : FaultRecord} : r.isOpen = true ↔ r.state ≠ .cleared := by
  simp [FaultRecord.isOpen]

theorem State.maskFaults_faults (s : State) (p : Pair) : (s.maskFaults p).faults = faultsMarked p s.faults := by
  refine (State.setPairFlagIf_faults _ _ p .faultChange).trans (List.map_congr_left fun r _ => ?_)
  unfold FaultRecord.mask
  simp only [FaultRecord.isOpen_iff]
  rfl

/-- A mark that changes sets FAULT CHANGE (R92, R97). -/
theorem State.maskFaults_faultChange (s : State) (p : Pair) :
    ((s.maskFaults p).port.flags.pairs.get p).get .faultChange = ((s.port.flags.pairs.get p).get .faultChange
      || decide ((faultsMarked p s.faults).map (·.masked) ≠ s.faults.map (·.masked))) := by
  refine (State.setPairFlagIf_get_same _ _ p .faultChange).trans ?_
  have marked : (s.maskFaults p).faults = s.faults.map (FaultRecord.mask s.faults p) :=
    State.setPairFlagIf_faults _ _ p .faultChange
  rw [any_ne_eq_decide_map_ne, ← State.maskFaults_faults, marked, List.map_map]
  rfl

theorem State.judgeFaults_faults (s : State) (p : Pair) (cs : List Candidate) (stamp : LineTime) :
    (s.judgeFaults p cs stamp).faults = s.faults.map (FaultRecord.judge (s.pair p) p cs stamp) :=
  State.setPairFlagIf_faults _ _ p .faultChange

/-- A record whose state changes sets FAULT CHANGE (R97). -/
theorem State.judgeFaults_faultChange {s : State} {p : Pair} {cs : List Candidate} {stamp : LineTime} {r : FaultRecord}
    (hr : r ∈ s.faults) (h : (FaultRecord.judge (s.pair p) p cs stamp r).state ≠ r.state) :
    ((s.judgeFaults p cs stamp).port.flags.pairs.get p).get .faultChange = true := by
  have changed : (s.faults.any fun r => decide ((FaultRecord.judge (s.pair p) p cs stamp r).state ≠ r.state)) = true :=
    List.any_eq_true.mpr ⟨r, hr, decide_eq_true h⟩
  refine (State.setPairFlagIf_get_same _ _ p .faultChange).trans ?_
  rw [changed, Bool.or_true]

/-- Evaluation that is held leaves the fault list to stage 4 (R109). -/
theorem State.judgeStages_held {s : State} {p : Pair} (h : (s.pair p).hold = true) (ks : List Known)
    (number : BitVec 48) (stamp : LineTime) : s.judgeStages p ks number stamp = s.isolationStage p ks [] := if_pos h

theorem State.judgeStages_evaluated {s : State} {p : Pair} (h : (s.pair p).hold = false) (ks : List Known)
    (number : BitVec 48) (stamp : LineTime) : s.judgeStages p ks number stamp =
      (s.localize p ks number stamp).1.isolationStage p ks (s.localize p ks number stamp).2 :=
  if_neg (Bool.eq_false_iff.mp h)

end Sys2Proof.Machine
end

section
/-! Stage 4 of a completion (R137, R138, R140, R141, R146): what each pass makes of a record's sequence. -/

namespace Sys2Proof.Machine

/-! ### Updates of one fault record -/

theorem FaultRecord.modAction_of_action {r : FaultRecord} {a : ActionPart} (h : r.action = some a)
    (f : ActionPart → ActionPart) : r.modAction f = { r with action := some (f a) } := by
  unfold FaultRecord.modAction
  rw [h]
  rfl

theorem FaultRecord.modAction_id (r : FaultRecord) (f : ActionPart → ActionPart) : (r.modAction f).id = r.id := rfl

theorem State.modFault_modFault (s : State) (id : Nat) {f : FaultRecord → FaultRecord} (g : FaultRecord → FaultRecord)
    (hf : ∀ r, (f r).id = r.id) : (s.modFault id f).modFault id g = s.modFault id (fun r => g (f r)) := by
  unfold State.modFault
  dsimp only
  rw [List.map_map]
  congr 1
  refine List.map_congr_left fun r _ => ?_
  by_cases h : r.id = id <;> simp [h, hf]

theorem State.setPairFlag_modFault (s : State) (p : Pair) (k : PairFlag) (id : Nat) (f : FaultRecord → FaultRecord) :
    (s.setPairFlag p k).modFault id f = (s.modFault id f).setPairFlag p k := rfl

section
variable {s : State} {r : FaultRecord} (hi : FaultListInv s) (hr : s.faultAt r.id = some r)
include hi hr

/-- A record put in its own place changes nothing. -/
theorem State.putFault_self : s.putFault r = s := by
  have put : s.modFault r.id id = s.putFault r := State.modFault_eq_putFault hi.distinct hr id rfl
  rw [← put]
  simp [State.modFault]

theorem State.modAction_eq_putFault {a : ActionPart} (ha : r.action = some a) (f : ActionPart → ActionPart) :
    s.modFault r.id (·.modAction f) = s.putFault { r with action := some (f a) } := by
  rw [State.modFault_eq_putFault hi.distinct hr _ rfl, FaultRecord.modAction_of_action ha]

end

/-! ### The first pass (R146) -/

section
variable {s : State} {r : FaultRecord} {a : ActionPart} (hi : FaultListInv s) (hr : s.faultAt r.id = some r)
  (hs : r.state = .acting) (ha : r.action = some a) (ks : List Known)

/-- A sequence that has ended: its result, step DONE, the count and the state of its record, FAULT CHANGE set (R97, R135). -/
def State.sequenceEnded (s : State) (r : FaultRecord) (a : ActionPart) (count : Nat) (result : ActionResult)
    (state : FaultState) : State :=
  (s.putFault { r with
    state := state
    action := some { a with step := .done, verified := count, result := result } }).setPairFlag r.pair .faultChange

include hs ha

theorem State.verifyPass_eq {passOver : Bool} (hstep : a.step = .verifying passOver) :
    State.verifyPass ks s r = s.verify r a passOver (outcomeAt ks r.first) := by
  unfold State.verifyPass
  rw [hs, ha]
  dsimp only
  rw [hstep]

theorem State.verifyPass_unknown (hstep : a.step = .verifying false) (ho : outcomeAt ks r.first = .unknown) :
    State.verifyPass ks s r = s := by
  rw [State.verifyPass_eq hs ha ks hstep, ho]
  rfl

include hi hr

/-- A record passed over loses its mark (R146). -/
theorem State.verifyPass_passedOver (hstep : a.step = .verifying true) :
    State.verifyPass ks s r = s.putFault { r with action := some { a with step := .verifying false } } := by
  rw [State.verifyPass_eq hs ha ks hstep]
  exact State.modAction_eq_putFault hi hr ha _

variable (hstep : a.step = .verifying false)
include hstep

theorem State.verifyPass_counts (ho : outcomeAt ks r.first = .normal)
    (hv : a.countVerified ≠ (s.pair r.pair).config.verifyCount) :
    State.verifyPass ks s r = s.putFault { r with action := some { a with verified := a.countVerified } } := by
  rw [State.verifyPass_eq hs ha ks hstep, ho]
  exact (if_neg hv).trans (State.modAction_eq_putFault hi hr ha _)

theorem State.verifyPass_isolated (ho : outcomeAt ks r.first = .normal)
    (hv : a.countVerified = (s.pair r.pair).config.verifyCount) :
    State.verifyPass ks s r = s.sequenceEnded r a a.countVerified .isolated .isolated := by
  rw [State.verifyPass_eq hs ha ks hstep, ho]
  refine (if_pos hv).trans ?_
  unfold State.endSequence State.sequenceEnded
  rw [State.modFault_modFault _ _ _ fun x => x.modAction_id _, State.modFault_eq_putFault hi.distinct hr _ rfl,
    FaultRecord.modAction_of_action ha]
  rfl

theorem State.verifyPass_notRecovered (ho : outcomeAt ks r.first = .low ∨ outcomeAt ks r.first = .high
    ∨ outcomeAt ks r.first = .absent) :
    State.verifyPass ks s r = s.sequenceEnded r a a.verified .notRecovered .unresolved := by
  have ended : State.verifyPass ks s r = s.endSequence r .notRecovered .unresolved := by
    rw [State.verifyPass_eq hs ha ks hstep]
    rcases ho with ho | ho | ho <;> rw [ho] <;> rfl
  rw [ended]
  unfold State.endSequence State.sequenceEnded
  rw [State.modFault_eq_putFault hi.distinct hr _ rfl, FaultRecord.modAction_of_action ha]

end

/-! ### The second pass (R141) -/

/-- The entry of a sequence's command as it joins the queue (R113, R115). -/
def State.sequenceEntry (s : State) (r : FaultRecord) (c : Command) (n : Nat) : QueueEntry :=
  ⟨.waiting, .fault r.id, r.pair, r.first, c, n, (s.pair r.pair).config.retries, 0⟩

theorem State.waitingPass_eq {s : State} {r : FaultRecord} {a : ActionPart} (hi : FaultListInv s)
    (hr : s.faultAt r.id = some r) (hs : r.state = .acting) (ha : r.action = some a) {c : Command} {n : Nat}
    {f : CommandStep} (hstep : a.step = .waitingForQueue c n f) :
    s.waitingPass r = if s.queue.length < 8 then
        { s.putFault { r with action := some { a with step := f.step } } with
          queue := s.queue ++ [s.sequenceEntry r c n] }
      else s := by
  have asks : s.waitingPass r = s.enqueueStep r c n f := by
    unfold State.waitingPass
    rw [hs, ha]
    dsimp only
    rw [hstep]
  rw [asks]
  rcases s.enqueueStep_cases r c n f with ⟨room, e⟩ | ⟨full, e⟩ <;> rw [e]
  · have put := State.modAction_eq_putFault hi hr ha fun a => { a with step := f.step }
    rw [if_pos room, ← put]
    rfl
  · have same : ({ r with action := some { a with step := .waitingForQueue c n f } } : FaultRecord) = r := by
      rw [← hstep, ← ha]
    rw [if_neg (Nat.not_lt.mpr full), State.modAction_eq_putFault hi hr ha, same, State.putFault_self hi hr]

/-! ### The third pass (R137, R138, R140) -/

section
variable {s : State} {r : FaultRecord} (hr : s.faultAt r.id = some r)
include hr

theorem State.autoStart_declined
    (h : (s.pair r.pair).config.autoIsolation = false ∨ (s.pair r.pair).config.policy r.cls = .nothing) :
    s.autoStart r.id = s := by
  unfold State.autoStart
  rw [hr]
  dsimp only
  refine if_neg ?_
  rcases h with h | h <;> simp [h]

theorem State.autoStart_starts (h : (s.pair r.pair).config.autoIsolation = true)
    (hp : (s.pair r.pair).config.policy r.cls ≠ .nothing) :
    s.autoStart r.id = s.startSequence r ((s.pair r.pair).config.policy r.cls) .auto none := by
  unfold State.autoStart
  rw [hr]
  dsimp only
  exact if_pos (by simp [h, hp])

variable (hi : FaultListInv s)
include hi

/-- A sequence begins in the step of its first command, enqueued or waiting for room (R140, R141). -/
theorem State.startSequence_eq (action : Action) (origin : ActionOrigin) (w : Option Half) {c : Command} {n : Nat}
    {f : CommandStep} (hc : firstCommand action = (c, n, f)) :
    let started := fun step : Step => (s.putFault { r with
      state := .acting, action := some ⟨action, origin, step, w, 0, .pending⟩ }).setPairFlag r.pair .faultChange
    (s.queue.length < 8 → s.startSequence r action origin w
        = { started f.step with queue := s.queue ++ [s.sequenceEntry r c n] })
      ∧ (8 ≤ s.queue.length → s.startSequence r action origin w = started (.waitingForQueue c n f)) := by
  intro started
  have stepped (step : Step) : (s.becomeActing r action origin w).modFault r.id
      (·.modAction fun a => { a with step := step }) = started step := by
    unfold State.becomeActing
    rw [State.setPairFlag_modFault, State.modFault_modFault, State.modFault_eq_putFault hi.distinct hr]
    · rfl
    · rfl
    · exact fun _ => rfl
  have asks : s.startSequence r action origin w = (s.becomeActing r action origin w).enqueueStep r c n f := by
    unfold State.startSequence
    rw [hc]
  rw [asks]
  have queue : (s.becomeActing r action origin w).queue = s.queue := rfl
  rcases (s.becomeActing r action origin w).enqueueStep_cases r c n f with ⟨room, e⟩ | ⟨full, e⟩
  · refine ⟨fun _ => ?_, fun h => absurd room (Nat.not_lt.mpr h)⟩
    rw [e, ← stepped]
    rfl
  · refine ⟨fun h => absurd h (Nat.not_lt.mpr full), fun _ => ?_⟩
    rw [e, stepped]

/-- A named record starts by the policy of its class (R137, R138). -/
theorem State.autoStart_eq (auto : (s.pair r.pair).config.autoIsolation = true)
    (acts : (s.pair r.pair).config.policy r.cls ≠ .nothing) {c : Command} {n : Nat} {f : CommandStep}
    (hc : firstCommand ((s.pair r.pair).config.policy r.cls) = (c, n, f)) :
    let started := fun step : Step => (s.putFault { r with
      state := .acting
      action := some ⟨(s.pair r.pair).config.policy r.cls, .auto, step, none, 0, .pending⟩ }).setPairFlag r.pair .faultChange
    (s.queue.length < 8 → s.autoStart r.id
        = { started f.step with queue := s.queue ++ [s.sequenceEntry r c n] })
      ∧ (8 ≤ s.queue.length → s.autoStart r.id = started (.waitingForQueue c n f)) := by
  rw [State.autoStart_starts hr auto acts]
  exact State.startSequence_eq hr hi _ .auto none hc

end

/-- An action that neither holds nor releases begins with a query (R140). -/
theorem firstCommand_query {action : Action} (hold : action ≠ .hold) (release : action ≠ .release) :
    firstCommand action = (.query, 0, .querying) := by
  cases action with
  | hold => exact absurd rfl hold
  | release => exact absurd rfl release
  | _ => rfl

end Sys2Proof.Machine
end

section
/-! SWEEP COMPLETION (R53, R54, R60, R65, R66, R69, R70, R73 to R76): what the five stages make of their pair, which marks they
set, and the plan that follows. -/

namespace Sys2Proof.Machine

/-! ### The marks of stage 1 (R54, R60) -/

/-- OVERRANGE and TRACK LIMIT stand as they are; other flags may be set. -/
structure MarksKept (s t : State) : Prop where
  overrange : ∀ p : Pair, (t.port.flags.pairs.get p).overrange = (s.port.flags.pairs.get p).overrange
  trackLimit : ∀ p : Pair, (t.port.flags.pairs.get p).trackLimit = (s.port.flags.pairs.get p).trackLimit

theorem MarksKept.of_flags {s t : State} (h : t.port.flags = s.port.flags) : MarksKept s t := by
  constructor <;> intro p <;> rw [h]

theorem MarksKept.refl (s : State) : MarksKept s s := .of_flags rfl

theorem MarksKept.trans {s t u : State} (h : MarksKept s t) (h' : MarksKept t u) : MarksKept s u :=
  ⟨fun p => (h'.overrange p).trans (h.overrange p), fun p => (h'.trackLimit p).trans (h.trackLimit p)⟩

theorem MarksKept.foldl {α : Type} {f : State → α → State} (hf : ∀ s x, MarksKept s (f s x)) (xs : List α) (s : State) :
    MarksKept s (xs.foldl f s) := by
  induction xs generalizing s with
  | nil => exact .refl s
  | cons x xs ih => exact (hf s x).trans (ih _)

theorem State.setPairFlag_flag_other (s : State) (p p' : Pair) {k k' : PairFlag} (h : k' ≠ k) :
    ((s.setPairFlag p k).port.flags.pairs.get p').get k' = (s.port.flags.pairs.get p').get k' := by
  by_cases hp : p' = p
  · subst hp
    simp [PairFlags.get_set_other _ _ h]
  · simp [PerPair.get_set_other _ _ hp]

theorem State.setPairFlag_marks (s : State) (p : Pair) (k : PairFlag) (h : k ≠ .overrange ∧ k ≠ .trackLimit) :
    MarksKept s (s.setPairFlag p k) :=
  ⟨fun p' => s.setPairFlag_flag_other p p' h.1.symm, fun p' => s.setPairFlag_flag_other p p' h.2.symm⟩

/-- A change behind the port that sets one flag. -/
theorem MarksKept.setPairFlag {s t : State} (h : t.port = s.port) (p : Pair) (k : PairFlag)
    (hk : k ≠ .overrange ∧ k ≠ .trackLimit) : MarksKept s (t.setPairFlag p k) :=
  (MarksKept.of_flags (congrArg PortState.flags h)).trans (t.setPairFlag_marks p k hk)

theorem MarksKept.setPairFlagIf {s t : State} (h : t.port = s.port) (b : Bool) (p : Pair) (k : PairFlag)
    (hk : k ≠ .overrange ∧ k ≠ .trackLimit) : MarksKept s (t.setPairFlagIf b p k) := by
  unfold State.setPairFlagIf
  split
  · exact .setPairFlag h p k hk
  · exact .of_flags (congrArg PortState.flags h)

theorem State.openFault_marks (s : State) (p : Pair) (c : Candidate) (n : BitVec 48) (stamp : LineTime) :
    MarksKept s (s.openFault p c n stamp) := .setPairFlag (by rfl) p .faultChange (by decide)

theorem State.matchCandidate_marks (p : Pair) (n : BitVec 48) (stamp : LineTime) (s : State) (c : Candidate) :
    MarksKept s (State.matchCandidate p n stamp s c) := by
  unfold State.matchCandidate State.openOrDrop
  split
  · exact .setPairFlagIf (by rfl) _ p .faultChange (by decide)
  · split
    · exact s.openFault_marks ..
    · split
      next r _ => exact (MarksKept.setPairFlag (by rfl) r.pair .faultChange (by decide)).trans (State.openFault_marks ..)
      · exact s.setPairFlag_marks p .faultListFull (by decide)

theorem State.maskFaults_marks (s : State) (p : Pair) : MarksKept s (s.maskFaults p) :=
  .setPairFlagIf (by rfl) _ p .faultChange (by decide)

theorem State.localize_marks (s : State) (p : Pair) (ks : List Known) (n : BitVec 48) (stamp : LineTime) :
    MarksKept s (s.localize p ks n stamp).1 :=
  (((MarksKept.foldl (State.matchCandidate_marks p n stamp) _ s).trans
    (State.maskFaults_marks _ p)).trans (.setPairFlagIf (by rfl) _ p .faultChange (by decide))).trans
    (State.maskFaults_marks _ p)

theorem State.enqueueStep_marks (s : State) (r : FaultRecord) (c : Command) (n : Nat) (f : CommandStep) :
    MarksKept s (s.enqueueStep r c n f) := by
  rcases s.enqueueStep_cases r c n f with ⟨_, h⟩ | ⟨_, h⟩ <;> rw [h] <;> exact .of_flags rfl

theorem State.endSequence_marks (s : State) (r : FaultRecord) (x : ActionResult) (st : FaultState) :
    MarksKept s (s.endSequence r x st) := .setPairFlag (by rfl) r.pair .faultChange (by decide)

theorem State.verifyPass_marks (ks : List Known) (s : State) (r : FaultRecord) :
    MarksKept s (State.verifyPass ks s r) := by
  unfold State.verifyPass State.verify
  split
  · split
    · split
      · exact .of_flags rfl
      · split
        · exact .refl s
        · dsimp only
          split
          · exact .setPairFlag (by rfl) r.pair .faultChange (by decide)
          · exact .of_flags rfl
        · exact s.endSequence_marks ..
    · exact .refl s
  · exact .refl s

theorem State.waitingPass_marks (s : State) (r : FaultRecord) : MarksKept s (s.waitingPass r) := by
  unfold State.waitingPass
  split
  · split
    · exact s.enqueueStep_marks ..
    · exact .refl s
  · exact .refl s

theorem State.autoStart_marks (s : State) (id : Nat) : MarksKept s (s.autoStart id) := by
  unfold State.autoStart
  split
  · exact .refl s
  next r _ =>
    dsimp only
    split
    · exact (MarksKept.setPairFlag (by rfl) r.pair .faultChange (by decide)).trans (State.enqueueStep_marks ..)
    · exact .refl s

theorem State.startNext_marks (s : State) : MarksKept s s.startNext := by
  rcases s.startNext_cases with h | ⟨e, _, _, h⟩ <;> rw [h]
  · exact .refl s
  · rcases State.askTone_cases _ e.pair with ⟨_, h⟩ | ⟨_, h⟩ <;> rw [h] <;> exact .of_flags rfl

theorem State.isolationStage_marks (s : State) (p : Pair) (ks : List Known) (named : List Nat) :
    MarksKept s (s.isolationStage p ks named) :=
  (((MarksKept.foldl (State.verifyPass_marks ks) _ s).trans (MarksKept.foldl State.waitingPass_marks _ _)).trans
    (MarksKept.foldl State.autoStart_marks _ _)).trans (State.startNext_marks _)

theorem State.judgeStages_marks (s : State) (p : Pair) (ks : List Known) (n : BitVec 48) (stamp : LineTime) :
    MarksKept s (s.judgeStages p ks n stamp) := by
  unfold State.judgeStages
  split
  · exact s.isolationStage_marks ..
  · exact (s.localize_marks ..).trans (State.isolationStage_marks ..)

theorem State.loseRole_marks (s : State) (p : Pair) : MarksKept s (s.loseRole p) := by
  have delivered (s : State) (id : Nat) : MarksKept s (s.deliver id .roleLost []) := by
    rw [State.deliver_roleLost]
    split
    · split
      · exact s.endSequence_marks ..
      · exact .refl s
    · exact .refl s
  have steps : MarksKept s (s.endWaitingSteps p) := .foldl (fun s r => s.endSequence_marks r _ _) _ s
  have removed : MarksKept (s.endWaitingSteps p) ((s.endWaitingSteps p).removeWaiting p) := by
    unfold State.removeWaiting
    refine .trans ?_ (.foldl delivered _ _)
    exact .of_flags rfl
  exact steps.trans removed

theorem State.reportLeftBank_marks (s : State) (p : Pair) : MarksKept s (s.reportLeftBank p) := by
  unfold State.reportLeftBank
  split
  next m x _ =>
    rcases s.setGuard_cases p m false x with ⟨_, h⟩ | ⟨_, _, h⟩ <;> rw [h]
    · exact .of_flags rfl
    · have listens : MarksKept s (s.setRole p .listen .roleYielded) := .setPairFlag (by rfl) p .roleChange (by decide)
      have silent : MarksKept s ((s.setRole p .listen .roleYielded).modPair p PairState.silence) :=
        listens.trans (.of_flags rfl)
      exact silent.trans (State.loseRole_marks _ p)
  · exact .refl s

theorem State.planSweep_marks (s : State) (await : Bool) (p : Pair) : MarksKept s (s.planSweep await p) := by
  rcases s.planSweep_cases await p with h | ⟨_, _, h⟩ <;> rw [h] <;> exact .of_flags rfl

theorem State.arbitrate_marks (s : State) : MarksKept s s.arbitrate := by
  rcases s.arbitrate_cases with h | ⟨_, _, _, _, _, h⟩ <;> rw [h] <;> exact .of_flags rfl

theorem State.transmit_marks (s : State) : MarksKept s s.transmit := .of_flags (State.transmit_port_flags s)

theorem State.publish_marks (s : State) (p : Pair) (b : PublishedSweep) : MarksKept s (s.publish p b) :=
  .setPairFlag (by rfl) p .sweepPublished (by decide)

/-- Stage 1 sets OVERRANGE and TRACK LIMIT where a record raises them (R54, R60). -/
theorem State.tableStage_marks (s : State) (p : Pair) (js : List Judged) :
    ((s.tableStage p js).port.flags.pairs.get p).overrange
        = ((s.port.flags.pairs.get p).overrange || js.any (·.overrange))
      ∧ ((s.tableStage p js).port.flags.pairs.get p).trackLimit
        = ((s.port.flags.pairs.get p).trackLimit || js.any (·.trackLimit)) := by
  have first := State.setPairFlagIf_get_same (s.modPair p fun q => { q with records := js.map (·.record) })
    (js.any (·.overrange)) p .overrange
  have second (s : State) (b : Bool) : ((s.setPairFlagIf b p .trackLimit).port.flags.pairs.get p).get .overrange
      = (s.port.flags.pairs.get p).get .overrange := by
    unfold State.setPairFlagIf
    split
    · exact s.setPairFlag_flag_other p p (by decide)
    · rfl
  have third (s : State) (b : Bool) : ((s.setPairFlagIf b p .overrange).port.flags.pairs.get p).get .trackLimit
      = (s.port.flags.pairs.get p).get .trackLimit := by
    unfold State.setPairFlagIf
    split
    · exact s.setPairFlag_flag_other p p (by decide)
    · rfl
  refine ⟨(second _ _).trans first, ?_⟩
  refine (State.setPairFlagIf_get_same _ _ p .trackLimit).trans ?_
  rw [third]
  rfl

/-! ### Stage 2 leaves the rest of its pair -/

/-- The learning stage writes the sums of the records, the run, its hold and its last result; a hold ends only with the
run (R106 to R110). -/
structure LearningKept (p : Pair) (s t : State) : Prop where
  own : ∃ (rs : List RepeaterRecord) (l : LearnState) (hold : Bool) (last : LearnResult),
    t.pair p = { s.pair p with records := rs, learn := l, hold := hold, lastLearn := last }
      ∧ rs.length = (s.pair p).records.length
      ∧ (hold && decide (l ≠ .idle)) = ((s.pair p).hold && decide (l ≠ .idle))
  others : ∀ p' : Pair, p' ≠ p → t.pair p' = s.pair p'
  marks : MarksKept s t

theorem LearningKept.setPair {p : Pair} {s : State} {rs : List RepeaterRecord} {l : LearnState} {hold : Bool}
    {last : LearnResult} (hr : rs.length = (s.pair p).records.length)
    (hh : (hold && decide (l ≠ .idle)) = ((s.pair p).hold && decide (l ≠ .idle))) :
    LearningKept p s (s.setPair p { s.pair p with records := rs, learn := l, hold := hold, lastLearn := last }) :=
  ⟨⟨rs, l, hold, last, State.pair_setPair_same .., hr, hh⟩, fun _ h => State.pair_setPair_other _ _ h, .of_flags rfl⟩

theorem LearningKept.learnDone {p : Pair} {s t : State} (h : LearningKept p s t) :
    LearningKept p s (t.setPairFlag p .learnDone) :=
  ⟨h.own, h.others, h.marks.trans (t.setPairFlag_marks p .learnDone (by decide))⟩

theorem State.learningStage_learning (s : State) (p : Pair) (ms : List WindowMeasurement) (number : BitVec 48)
    (stamp : LineTime) : LearningKept p s (s.learningStage p ms number stamp) := by
  cases hl : (s.pair p).learn with
  | idle =>
    rw [State.learningStage_idle hl]
    exact ⟨⟨_, _, _, _, rfl, rfl, rfl⟩, fun _ _ => rfl, .refl s⟩
  | active mode target counted suspended =>
    cases hs : s.learnSuspended p mode
    · by_cases hc : counted + 1 = target
      · rw [State.learningStage_finished hl ms number stamp hs hc]
        exact (LearningKept.setPair (by simp) rfl).learnDone
      · rw [State.learningStage_counted hl ms number stamp hs hc]
        exact .setPair (by simp) rfl
    · by_cases hc : suspended + 1 = 2 * target
      · rw [State.learningStage_abandoned hl ms number stamp hs hc]
        exact (LearningKept.setPair (by simp) (by simp)).learnDone
      · rw [State.learningStage_suspended hl ms number stamp hs hc]
        exact .setPair rfl rfl

/-! ### The stages and NO SWEEP (R65, R74 to R76) -/

theorem State.pair_tableStage_same (s : State) (p : Pair) (js : List Judged) :
    (s.tableStage p js).pair p = { s.pair p with records := js.map (·.record) } := by
  unfold State.tableStage
  rw [(State.setPairFlagIf_kept ..).pair, (State.setPairFlagIf_kept ..).pair, State.pair_modPair_same]

theorem State.pair_tableStage_other (s : State) {p p' : Pair} (js : List Judged) (h : p' ≠ p) :
    (s.tableStage p js).pair p' = s.pair p' := by
  unfold State.tableStage
  rw [(State.setPairFlagIf_kept ..).pair, (State.setPairFlagIf_kept ..).pair, State.pair_modPair_other _ _ h]

/-- The sweep that a completion of `w` publishes for a pair (R75, R76). -/
def PairState.completedSweep (q : PairState) (w : Sweep) (stamp : LineTime) : PublishedSweep :=
  publishedOf w (q.sweepNumber + 1) stamp q.records (judgeAll q.config w.held q.records)

/-- The part after stage 1 of a completion, after stage 2, and after stages 3 and 4 (R74). -/
def State.tableDone (s : State) (p : Pair) (w : Sweep) : State :=
  s.tableStage p (judgeAll (s.pair p).config w.held (s.pair p).records)

def State.learningDone (s : State) (p : Pair) (w : Sweep) (stamp : LineTime) : State :=
  (s.tableDone p w).learningStage p w.held ((s.pair p).sweepNumber + 1) stamp

def State.evaluated (s : State) (p : Pair) (w : Sweep) (stamp : LineTime) : State :=
  (s.learningDone p w stamp).judgeStages p
    ((judgeAll (s.pair p).config w.held (s.pair p).records).map Judged.known) ((s.pair p).sweepNumber + 1) stamp

theorem State.stages_eq (s : State) (p : Pair) (w : Sweep) (stamp : LineTime) : s.stages p w stamp =
    ((s.evaluated p w stamp).publish p ((s.pair p).completedSweep w stamp)).releaseHold p := rfl

/-- What a completion leaves of its pair: its records judged, and its learning where a run is active; the role stands unless
it is YIELDING. -/
structure Evaluated (p : Pair) (w : Sweep) (s t : State) : Prop extends PartKept s t where
  config : (t.pair p).config = (s.pair p).config
  role : (s.pair p).role.name ≠ .yielding → (t.pair p).role = (s.pair p).role
  det : (t.pair p).det = (s.pair p).det
  readout : (t.pair p).readout = (s.pair p).readout
  length : (t.pair p).records.length = (s.pair p).records.length
  records : (s.pair p).learn = .idle →
    (t.pair p).records = (judgeAll (s.pair p).config w.held (s.pair p).records).map (·.record)
  others : ∀ p' : Pair, p' ≠ p → PairKept (s.pair p') (t.pair p')

theorem State.evaluated_spec (s : State) (p : Pair) (w : Sweep) (stamp : LineTime) :
    Evaluated p w s (s.evaluated p w stamp)
      ∧ (((s.evaluated p w stamp).pair p).hold && decide (((s.evaluated p w stamp).pair p).learn ≠ .idle))
        = ((s.pair p).hold && decide (((s.evaluated p w stamp).pair p).learn ≠ .idle)) := by
  have part : PartKept s (s.evaluated p w stamp) :=
    (((s.tableStage_kept p _ _).trans (State.learningStage_kept ..)).trans
      (State.judgeStages_kept ..).stage).toPartKept
  have table : (s.tableDone p w).pair p = _ := s.pair_tableStage_same p _
  have learning : LearningKept p (s.tableDone p w) (s.learningDone p w stamp) := State.learningStage_learning ..
  have judged : LineKept (s.learningDone p w stamp) (s.evaluated p w stamp) := State.judgeStages_kept ..
  obtain ⟨rs, l, hold, last, own, length, held⟩ := learning.own
  have kept := judged.pair p
  rw [own, table] at kept
  rw [table] at length held
  refine ⟨⟨part, kept.config, fun _ => kept.role, kept.det, kept.readout, ?_, fun hl => ?_, fun p' hp => ?_⟩, ?_⟩
  · refine (congrArg List.length kept.records).trans (length.trans ?_)
    simp [judgeAll]
  · have idle : s.learningDone p w stamp = s.tableDone p w :=
      State.learningStage_idle (by rw [table]; exact hl) ..
    have kept := judged.pair p
    rw [idle, table] at kept
    exact kept.records
  · have other := judged.pair p'
    rwa [learning.others p' hp, State.tableDone, s.pair_tableStage_other _ hp] at other
  · rw [kept.hold, kept.learn]
    exact held

/-- OVERRANGE and TRACK LIMIT are set by stage 1 alone (R54, R60). -/
theorem State.evaluated_marks (s : State) (p : Pair) (w : Sweep) (stamp : LineTime) :
    MarksKept (s.tableDone p w) (s.evaluated p w stamp) :=
  (State.learningStage_learning _ p w.held _ stamp).marks.trans (State.judgeStages_marks ..)

/-- What a completion has made of its pair, of the flags and of the others, once it has published (R54, R60, R75, R109). -/
structure Completed (p : Pair) (w : Sweep) (stamp : LineTime) (s t : State) : Prop extends Evaluated p w s t where
  published : (t.pair p).published = some ((s.pair p).completedSweep w stamp)
  number : (t.pair p).sweepNumber = (s.pair p).sweepNumber + 1
  hold : (t.pair p).hold = ((s.pair p).hold && decide ((t.pair p).learn ≠ .idle))
  sweepPublished : (t.port.flags.pairs.get p).get .sweepPublished = true
  marks : MarksKept (s.tableDone p w) t

theorem State.stages_completed (s : State) (p : Pair) (w : Sweep) (stamp : LineTime) :
    Completed p w stamp s (s.stages p w stamp) := by
  obtain ⟨evaluated, held⟩ := s.evaluated_spec p w stamp
  have own : (s.stages p w stamp).pair p = { (s.evaluated p w stamp).pair p with
      published := some ((s.pair p).completedSweep w stamp), sweepNumber := (s.pair p).sweepNumber + 1
      hold := ((s.evaluated p w stamp).pair p).hold && decide (((s.evaluated p w stamp).pair p).learn ≠ .idle) } := by
    rw [State.stages_eq]
    unfold State.releaseHold State.publish
    rw [State.pair_modPair_same, State.pair_setPairFlag, State.pair_modPair_same]
    rfl
  have others (p' : Pair) (hp : p' ≠ p) : (s.stages p w stamp).pair p' = (s.evaluated p w stamp).pair p' := by
    rw [State.stages_eq]
    unfold State.releaseHold State.publish
    rw [State.pair_modPair_other _ _ hp, State.pair_setPairFlag, State.pair_modPair_other _ _ hp]
  refine ⟨⟨(State.stages_kept ..).toPartKept, ?_, fun hy => ?_, ?_, ?_, ?_, fun hl => ?_, fun p' hp => ?_⟩, ?_, ?_, ?_, ?_, ?_⟩
  · rw [own, ← evaluated.config]
  · rw [own, ← evaluated.role hy]
  · rw [own, ← evaluated.det]
  · rw [own, ← evaluated.readout]
  · rw [own, ← evaluated.length]
  · rw [own, ← evaluated.records hl]
  · rw [others p' hp]
    exact evaluated.others p' hp
  · rw [own]
  · rw [own]
  · rw [own]
    exact held
  · exact State.setPairFlag_get_same _ p .sweepPublished
  · exact (s.evaluated_marks p w stamp).trans ((State.publish_marks ..).trans (.of_flags rfl))

theorem Completed.line {p : Pair} {w : Sweep} {stamp : LineTime} {s t u : State} (h : Completed p w stamp s t)
    (hl : LineKept t u) (hm : MarksKept t u) : Completed p w stamp s u := by
  have own := hl.pair p
  refine ⟨⟨h.toPartKept.trans hl.toPartKept, own.config.trans h.config, fun hy => own.role.trans (h.role hy),
    own.det.trans h.det, own.readout.trans h.readout, ?_, fun hi => own.records.trans (h.records hi),
    fun p' hp => (h.others p' hp).trans (hl.pair p')⟩, own.published.trans h.published, own.sweepNumber.trans h.number, ?_,
    hl.flags p .sweepPublished h.sweepPublished, h.marks.trans hm⟩
  · rw [own.records, h.length]
  · rw [own.hold, own.learn, h.hold]

/-- A yield that waits for the pass is told of its end, and may end with it (R162). -/
theorem Completed.reportLeftBank {p : Pair} {w : Sweep} {stamp : LineTime} {s t : State} (h : Completed p w stamp s t) :
    Completed p w stamp s (t.reportLeftBank p) := by
  have reported := t.reportLeftBank_yield p
  have role := (t.reportLeftBank_report p).role
  obtain ⟨_, _, _, _, own⟩ := reported.own
  refine ⟨⟨h.toPartKept.trans reported.toPartKept, ?_, fun hy => ?_, ?_, ?_, ?_, fun hi => ?_, fun p' hp => ?_⟩, ?_, ?_, ?_,
    reported.flags p .sweepPublished h.sweepPublished, h.marks.trans (t.reportLeftBank_marks p)⟩
  · rw [own, ← h.config]
  · rw [role (by rwa [h.role hy]), h.role hy]
  · rw [own, ← h.det]
  · rw [own, ← h.readout]
  · rw [own, ← h.length]
  · rw [own, ← h.records hi]
  · rw [reported.others p' hp]
    exact h.others p' hp
  · rw [own, ← h.published]
  · rw [own, ← h.number]
  · rw [own, h.hold]

/-- The pair leaves PASS IN BANK with its completion done (R65). -/
theorem Completed.leaveBank {p : Pair} {w : Sweep} {stamp : LineTime} {s t : State} (h : Completed p w stamp s t) :
    Completed p w stamp s (t.leaveBank p) ∧ ((t.leaveBank p).pair p).sweep = none := by
  have left : Completed p w stamp s (t.modPair p fun q => { q with sweep := none }) :=
    h.line (.modPair (.of_tone_sweep _ _ _)) (.of_flags rfl)
  obtain ⟨_, _, _, _, own⟩ := ((t.modPair p fun q => { q with sweep := none }).reportLeftBank_yield p).own
  refine ⟨left.reportLeftBank, ?_⟩
  unfold State.leaveBank
  rw [own, State.pair_modPair_same]

/-- The part once a completion has been taken up to NO SWEEP (R65, R74). -/
def State.completed (s : State) (p : Pair) (w : Sweep) (stamp : LineTime) : State := (s.stages p w stamp).leaveBank p

theorem State.completed_spec (s : State) (p : Pair) (w : Sweep) (stamp : LineTime) :
    Completed p w stamp s (s.completed p w stamp) ∧ ((s.completed p w stamp).pair p).sweep = none :=
  (s.stages_completed p w stamp).leaveBank

theorem State.finishSweep_eq {s : State} {p : Pair} {w : Sweep} {stamp : LineTime} (hw : (s.pair p).sweep = some w)
    (hs : w.stage = .completing stamp) : s.finishSweep p = s.completed p w stamp := by
  unfold State.finishSweep
  rw [hw]
  dsimp only
  rw [hs]
  rfl

theorem PairState.completionDue_of_completing {q : PairState} {w : Sweep} {stamp : LineTime} (hw : q.sweep = some w)
    (hs : w.stage = .completing stamp) : q.completionDue = true := by
  unfold PairState.completionDue
  rw [hw]
  dsimp only
  rw [hs]

theorem exec_sweepCompletion {s : State} {p : Pair} {w : Sweep} {stamp : LineTime} (hr : s.inReset = false)
    (hw : (s.pair p).sweep = some w) (hs : w.stage = .completing stamp) :
    exec (.sweepCompletion p) s = .next (((s.completed p w stamp).planSweep true p).arbitrate).transmit := by
  refine (live_running hr (·.completeSweep p)).trans ?_
  unfold State.completeSweep
  rw [if_pos (PairState.completionDue_of_completing hw hs), State.finishSweep_eq hw hs]
  rfl

theorem State.takeCompletion_eq {s : State} {p : Pair} {w : Sweep} {stamp : LineTime}
    (hw : (s.pair p).sweep = some w) (hs : w.stage = .completing stamp) :
    s.takeCompletion p = (s.completed p w stamp).transmit := by
  unfold State.takeCompletion
  rw [if_pos (PairState.completionDue_of_completing hw hs), State.finishSweep_eq hw hs]

/-! ### The next plan (R66, R69, R70) -/

/-- A grant moves a sweep into the bank and writes nothing else of it (R69). -/
theorem State.arbitrate_sweep {s : State} {p : Pair} {w : Sweep} (h : (s.arbitrate.pair p).sweep = some w) :
    ∃ v, (s.pair p).sweep = some v ∧ w.passNo = v.passNo ∧ w.held = v.held ∧ w.awaitBoundary = v.awaitBoundary := by
  rcases s.arbitrate_cases with e | ⟨p', v, _, _, hv, e⟩ <;> rw [e] at h
  · exact ⟨w, h, rfl, rfl, rfl⟩
  · by_cases hp : p = p'
    · subst hp
      have own : ((s.setPair p { s.pair p with sweep := some { v with stage := .inBank } }).pair p).sweep = some w := h
      rw [State.pair_setPair_same] at own
      cases own
      exact ⟨v, hv, rfl, rfl, rfl⟩
    · have other : ((s.setPair p' { s.pair p' with sweep := some { v with stage := .inBank } }).pair p).sweep = some w := h
      rw [State.pair_setPair_other _ _ hp] at other
      exact ⟨w, other, rfl, rfl, rfl⟩

/-- A sweep planned at a completion begins with its first pass, which waits for a period boundary (R66, R70). -/
theorem State.replan_sweep {s : State} {p : Pair} {w : Sweep} (hn : (s.pair p).sweep = none)
    (h : ((s.planSweep true p).arbitrate.pair p).sweep = some w) :
    w.passNo = 1 ∧ w.held = [] ∧ w.awaitBoundary = true := by
  obtain ⟨v, hv, pass, held, await⟩ := State.arbitrate_sweep h
  rcases s.planSweep_cases true p with e | ⟨_, _, e⟩ <;> rw [e] at hv
  · cases hn.symm.trans hv
  · rw [State.pair_setPair_same] at hv
    cases hv
    exact ⟨pass, held, await⟩

end Sys2Proof.Machine
end

section
/-! SWEEP COMPLETION as the statement has it: the completion and the stages put together. -/

namespace Sys2Proof.Machine

/-- A result is published for each record, of the window it had and of what stage 1 made of it (R76). -/
theorem PairState.completedSweep_result {q : PairState} {i : Nat} {r : RepeaterRecord} (h : q.records[i]? = some r)
    (w : Sweep) (stamp : LineTime) : (q.completedSweep w stamp).results[i]?
      = some (resultOf w r (r.applyEdits.judge q.config.presence q.config.track (measurementOf w.held r.index))) := by
  simp [PairState.completedSweep, publishedOf, judgeAll, List.getElem?_zipWith, h]

theorem PairState.completedSweep_length (q : PairState) (w : Sweep) (stamp : LineTime) :
    (q.completedSweep w stamp).results.length = q.records.length := by
  simp [PairState.completedSweep, publishedOf, judgeAll]

/-- A completion publishes the judged records and leaves the pair to a fresh plan (R66, R70, R74 to R76). -/
theorem State.completed_replanned (s : State) (p : Pair) (w : Sweep) (stamp : LineTime) :
    let t := (((s.completed p w stamp).planSweep true p).arbitrate).transmit
    Completed p w stamp s t
      ∧ (∀ w', (t.pair p).sweep = some w' → w'.passNo = 1 ∧ w'.held = [] ∧ w'.awaitBoundary = true)
      ∧ (((s.pair p).role.name = .holder ∨ (s.pair p).role = .synthetic) → (s.pair p).det.lossDeclared = false →
          (∃ r ∈ (t.pair p).records, r.excluded = false) → (t.pair p).sweep.isSome = true) := by
  intro t
  obtain ⟨completed, noSweep⟩ := s.completed_spec p w stamp
  have lines : LineKept (s.completed p w stamp) t :=
    (((s.completed p w stamp).planSweep_kept true p).trans (State.arbitrate_kept _)).trans (State.transmit_kept _).line
  have marks : MarksKept (s.completed p w stamp) t :=
    (((s.completed p w stamp).planSweep_marks true p).trans (State.arbitrate_marks _)).trans (State.transmit_marks _)
  have sweep : (t.pair p).sweep = ((((s.completed p w stamp).planSweep true p).arbitrate).pair p).sweep := by
    rw [State.pair_transmit]
  refine ⟨completed.line lines marks, fun w' hw' => State.replan_sweep noSweep (sweep ▸ hw'), fun role loss eligible => ?_⟩
  rw [sweep, State.arbitrate_sweep_isSome]
  have still : (s.pair p).role.name ≠ .yielding := by
    rcases role with h | h <;> rw [h] <;> decide
  refine State.planSweep_isSome (PairState.maySweep_iff.mpr ⟨?_, ?_, ?_⟩) true
  · rwa [completed.role still]
  · rwa [completed.det]
  · rwa [← (lines.pair p).records]

/-- Settles O50, clause by clause: the completion and the plan after it (`State.completed_replanned`), stage 2
(`State.learningStage_…`), stage 3 (`State.judgeStages_…`, `State.maskFaults_…`), and the three passes of stage 4
(`State.verifyPass_…`, `State.waitingPass_eq`, `State.autoStart_…`). The marks OVERRANGE and TRACK LIMIT are what stage 1
makes of them, since no later stage writes them (`MarksKept`). -/
theorem sweepCompletionPublishes : Obligations.SweepCompletionPublishes := by
  refine ⟨fun p w stamp s hr hw hs => ?_, fun p ms number stamp s => ?_, fun p ks number stamp s => ?_,
    fun p ks named s => rfl, fun ks s r hi hf => ⟨fun a hs ha => ?_, ?_⟩⟩
  · -- the completion (R53, R54, R60, R66, R69, R70, R74 to R76)
    intro q judged ended
    obtain ⟨completed, planned, able⟩ := s.completed_replanned p w stamp
    obtain ⟨overrange, trackLimit⟩ := s.tableStage_marks p judged
    refine ⟨_, q.completedSweep w stamp, exec_sweepCompletion hr hw hs, rfl, State.takeCompletion_eq hw hs, completed.number,
      completed.published, rfl, rfl, rfl, q.completedSweep_length w stamp, fun i r hi => ?_, completed.length,
      completed.sweepPublished, (completed.marks.overrange p).trans overrange,
      (completed.marks.trackLimit p).trans trackLimit, completed.hold, planned, able, completed.readout, completed.config, completed.time,
      completed.others⟩
    intro window m j
    refine ⟨PairState.completedSweep_result hi w stamp, fun idle => ?_⟩
    rw [completed.records idle, List.getElem?_map, judgeAll, List.getElem?_map, hi]
    rfl
  · -- learning (R106 to R110)
    intro q t
    refine ⟨fun idle => State.learningStage_idle idle .., fun mode target counted suspended hl => ?_⟩
    intro suspends learned replaced
    have suspended_eq : s.learnSuspended p mode = suspends := s.learnSuspended_eq p mode
    have learned_eq : q.records.map (·.learn q.config.presence ms) = learned :=
      List.map_congr_left fun r _ => (r.learn_eq q.config.presence ms).trans rfl
    refine ⟨fun h hc => State.learningStage_suspended hl ms number stamp (suspended_eq.trans h) hc,
      fun h hc => State.learningStage_abandoned hl ms number stamp (suspended_eq.trans h) hc,
      fun h hc => (State.learningStage_counted hl ms number stamp (suspended_eq.trans h) hc).trans ?_,
      fun h hc => (State.learningStage_finished hl ms number stamp (suspended_eq.trans h) hc).trans ?_⟩
    · rw [learned_eq]
    · have length : learned.length = q.records.length := List.length_map ..
      rw [learned_eq]
      dsimp only
      rw [length]
      rfl
  · -- localization (R83, R92, R109)
    intro cs matched judge marked
    refine ⟨fun held => State.judgeStages_held held ..,
      fun free => ⟨(matched.judgeFaults p cs stamp).maskFaults p, ?_, ?_, ?_, fun r hr changed => ?_⟩,
      s.maskFaults_faults p, (s.maskFaults_kept p).pairs, s.maskFaults_faultChange p⟩
    · exact (State.judgeStages_evaluated free ks number stamp).trans rfl
    · exact (s.localize_kept p ks number stamp).pairs
    · rw [State.maskFaults_faults, State.judgeFaults_faults]
      rfl
    · exact (State.maskFaults_kept _ p).flags p .faultChange (State.judgeFaults_faultChange hr changed)
  · -- a verifying and a waiting sequence (R141, R146)
    intro outcome count ended
    refine ⟨State.verifyPass_passedOver hi hf hs ha ks, State.verifyPass_unknown hs ha ks,
      State.verifyPass_counts hi hf hs ha ks, State.verifyPass_isolated hi hf hs ha ks,
      State.verifyPass_notRecovered hi hf hs ha ks, fun c n f hstep => ?_⟩
    exact (State.waitingPass_eq hi hf hs ha hstep).trans rfl
  · -- the start by policy (R137, R138, R140)
    intro config policy hold started
    by_cases h : policy = .hold
    · have chosen : hold = true := decide_eq_true h
      have first : firstCommand policy = (.gainHold, 1, .commanding) := congrArg firstCommand h
      rw [chosen]
      exact ⟨State.autoStart_declined hf, fun auto acts _ => (State.autoStart_eq hf hi auto acts first).1,
        fun auto acts _ => (State.autoStart_eq hf hi auto acts first).2⟩
    · have chosen : hold = false := decide_eq_false h
      rw [chosen]
      exact ⟨State.autoStart_declined hf,
        fun auto acts kept => (State.autoStart_eq hf hi auto acts (firstCommand_query h kept)).1,
        fun auto acts kept => (State.autoStart_eq hf hi auto acts (firstCommand_query h kept)).2⟩

end Sys2Proof.Machine
end

section
/-! An invariant of the blocks behind the Message Port that their own operations keep is kept by every step: the port, the
Timebase and the commands that wait touch nothing that it reads. -/

namespace Sys2Proof.Machine

/-! ### What the port leaves alone -/

/-- Two states agree on the pairs, the bank and the fault list. -/
structure BlocksAgree (s t : State) : Prop where
  pairs : t.pairs = s.pairs
  bank : t.bank = s.bank
  faults : t.faults = s.faults
  nextFaultId : t.nextFaultId = s.nextFaultId

theorem BlocksAgree.refl (s : State) : BlocksAgree s s := ⟨rfl, rfl, rfl, rfl⟩

theorem BlocksAgree.trans {s t u : State} (h : BlocksAgree s t) (h' : BlocksAgree t u) : BlocksAgree s u :=
  ⟨h'.pairs.trans h.pairs, h'.bank.trans h.bank, h'.faults.trans h.faults, h'.nextFaultId.trans h.nextFaultId⟩

theorem State.transmit_agrees (s : State) : BlocksAgree s s.transmit := ⟨by simp, by simp, by simp, by simp⟩

theorem State.setPartFlag_agrees (s : State) (k : PartFlag) : BlocksAgree s (s.setPartFlag k) :=
  ⟨by simp, by simp, by simp, by simp⟩

theorem State.joinRequests_agrees (s : State) (f : Frame) : BlocksAgree s (s.joinRequests f) := by
  unfold State.joinRequests
  split
  · exact ⟨rfl, rfl, rfl, rfl⟩
  · exact s.setPartFlag_agrees _

theorem State.frameSent_agrees (s : State) (kind : SentKind) : BlocksAgree s (s.frameSent kind) := by
  cases kind <;> exact ⟨rfl, rfl, rfl, rfl⟩

/-- The requests that may change a pair, the bank, the fault list or the supervisory queue. -/
def changesBlocks : Request → Bool
  | .configurePair .. | .setPairMode .. | .injectFault .. | .takeRole _ | .releaseRole .. | .loadRepeaters ..
  | .editRepeater .. | .readResults .. | .readTrace .. | .learnBaseline .. | .abortLearn _ | .purgeFault ..
  | .isolate .. | .releaseIsolation _ | .supervise .. => true
  | _ => false

theorem withPair_kept {I : State → Prop} {f : Pair → State → State × Answer} {s : State} (hs : I s)
    (hf : ∀ p, I (f p s).1) (b : Byte) : I (withPair b f s).1 := by
  unfold withPair
  split
  · exact hf _
  · exact hs

/-- The other requests read, or set the port and the Timebase alone. -/
theorem requestOwner_agrees {r : Request} (h : changesBlocks r = false) (tag : Byte) (s : State) :
    BlocksAgree s (requestOwner tag r s).1 := by
  cases r with
  | identify | reset | readTime | readEvents | readQueue => exact ⟨rfl, rfl, rfl, rfl⟩
  | setTime seconds fraction => unfold requestOwner ownSetTime; dsimp only; split <;> exact ⟨rfl, rfl, rfl, rfl⟩
  | adjustTime o => unfold requestOwner ownAdjustTime; dsimp only; split <;> exact ⟨rfl, rfl, rfl, rfl⟩
  | clearEvents sel => unfold requestOwner ownClearEvents; dsimp only; split <;> exact ⟨rfl, rfl, rfl, rfl⟩
  | setNoticeMask m => unfold requestOwner ownSetNoticeMask; dsimp only; split <;> exact ⟨rfl, rfl, rfl, rfl⟩
  | readPairConfig p | readRole p | readLearning p =>
    exact withPair_kept (I := BlocksAgree s) (.refl s) (fun _ => .refl s) p
  | readRepeater p i =>
    refine withPair_kept (I := BlocksAgree s) (.refl s) (fun _ => ?_) p
    dsimp only
    split <;> exact ⟨rfl, rfl, rfl, rfl⟩
  | listFaults sel i =>
    unfold requestOwner ownListFaults
    dsimp only
    split
    · exact ⟨rfl, rfl, rfl, rfl⟩
    · split <;> exact ⟨rfl, rfl, rfl, rfl⟩
  | readFault i =>
    unfold requestOwner ownReadFault
    dsimp only
    split
    · exact ⟨rfl, rfl, rfl, rfl⟩
    · split <;> exact ⟨rfl, rfl, rfl, rfl⟩
  | _ => cases h

/-! ### The events of the blocks -/

/-- What the row of an event behind the port does to a part that is not held in reset. -/
def blockEvent : Instr → Option (State → State)
  | .returnSample p x => some (·.returnSample p x)
  | .returnLossDeclared p => some (·.declareLoss p)
  | .periodBoundary p => some (·.periodBoundary p)
  | .farActivityBlock p => some (·.activityBlock p)
  | .farToneMillisecond p f3 f4 => some (·.farMillisecond p f3 f4)
  | .passBegin p => some (·.passBegin p)
  | .passEnd p => some (·.passEnd p)
  | .sweepCompletion p => some (·.completeSweep p)
  | .commandFrameEnd => some (·.frameEnd)
  | .driveErrorStop => some (·.driveStop)
  | .receptionStart => some (·.receptionStart)
  | .replyBit => some (·.replyBit)
  | .claimBurstEnd p => some (·.claimBurstEnd p)
  | .keepBurstEnd p => some (·.keepBurstEnd p)
  | .claimWon p => some (·.claimWon p)
  | .claimTimeout p => some (·.claimTimeout p)
  | .collision p => some (·.collide p)
  | .toneSymbolMidpoint readback => some (·.midpoint readback)
  | _ => none

theorem exec_eq_live {i : Instr} {f : State → State} (h : blockEvent i = some f) (s : State) :
    exec i s = live s f := by cases i <;> cases h <;> rfl

/-- A part whose blocks are at their reset values (R177, R178). -/
structure BlocksAtReset (t : State) : Prop where
  pair : ∀ p : Pair, ∃ inputs : LineInputs, t.pair p = { PairState.reset with inputs := inputs }
  bank : t.bank = .idle
  faults : t.faults = []
  nextFaultId : t.nextFaultId = 1

theorem State.pair_keepInputs {s t : State} (h : t.pairs = PerPair.keepInputs s.pairs State.reset.pairs) (p : Pair) :
    t.pair p = { PairState.reset with inputs := (s.pair p).inputs } := by
  unfold State.pair
  rw [h]
  cases p <;> rfl

theorem State.softReset_atReset (s : State) : BlocksAtReset s.softReset :=
  ⟨fun p => ⟨_, State.pair_keepInputs (s := s) rfl p⟩, rfl, rfl, rfl⟩

/-! ### The invariant through the port -/

/-- What an invariant of the blocks needs: it reads no more than they hold, it stands after a reset, and the requests, the
events and the clock keep it. -/
structure BlockInvariant (I : State → Prop) : Prop where
  agree : ∀ {s t : State}, I s → BlocksAgree s t → I t
  reset : ∀ {t : State}, BlocksAtReset t → I t
  owner : ∀ (tag : Byte) {r : Request} {s : State}, changesBlocks r = true → I s → I (requestOwner tag r s).1
  event : ∀ {i : Instr} {f : State → State} {s : State}, blockEvent i = some f → I s → I (f s)
  tick : ∀ {s : State}, I s → I s.tick

section
variable {I : State → Prop} (h : BlockInvariant I) {s : State} (hs : I s)
include h hs

theorem BlockInvariant.requestOwner (tag : Byte) (r : Request) : I (requestOwner tag r s).1 := by
  cases hr : changesBlocks r with
  | true => exact h.owner tag hr hs
  | false => exact h.agree hs (requestOwner_agrees hr tag s)

theorem BlockInvariant.handleFrame (f : Frame) : I (s.handleFrame f) := by
  unfold State.handleFrame
  split
  · exact h.agree hs ⟨rfl, rfl, rfl, rfl⟩
  · exact h.agree hs ⟨rfl, rfl, rfl, rfl⟩
  next r _ => exact h.agree (h.requestOwner hs f.tag r) ⟨rfl, rfl, rfl, rfl⟩

theorem BlockInvariant.takeOldest : I s.takeOldest := by
  unfold State.takeOldest
  split
  · exact hs
  next f rest _ =>
    have popped : I { s with port := { s.port with requests := rest } } := h.agree hs ⟨rfl, rfl, rfl, rfl⟩
    exact h.handleFrame popped f

theorem BlockInvariant.takeUpTo (fuel : Nat) : I (State.takeUpTo fuel s) := by
  induction fuel generalizing s with
  | zero => exact hs
  | succ fuel ih =>
    unfold State.takeUpTo
    split
    · exact ih (h.takeOldest hs)
    · exact hs

theorem BlockInvariant.arrive (f : Frame) : I (s.arrive f) := by
  unfold State.arrive
  split
  · exact h.handleFrame hs f
  · exact h.agree hs (s.joinRequests_agrees f)

theorem BlockInvariant.completeFrame (f : Frame) : I (s.completeFrame f) :=
  h.agree (h.takeUpTo (h.agree hs (s.joinRequests_agrees f)) _) (State.transmit_agrees _)

theorem BlockInvariant.discardFrame : I s.discardFrame :=
  h.agree hs ((s.setPartFlag_agrees _).trans (State.transmit_agrees _))

theorem BlockInvariant.receive (fuel : Nat) (bytes : List HeldByte) : I (State.receive fuel bytes s) := by
  induction fuel generalizing bytes s with
  | zero => exact h.agree hs ⟨rfl, rfl, rfl, rfl⟩
  | succ fuel ih =>
    cases bytes with
    | nil => exact h.agree hs ⟨rfl, rfl, rfl, rfl⟩
    | cons b rest =>
      unfold State.receive
      split
      · exact ih hs rest
      · split
        · exact ih (h.discardFrame hs) rest
        · exact ih (h.completeFrame hs _) _
        · split
          · exact ih (h.discardFrame hs) rest
          · exact h.agree hs ⟨rfl, rfl, rfl, rfl⟩

theorem BlockInvariant.transmitEnd : I s.transmitEnd := by
  unfold State.transmitEnd
  split
  · exact h.takeUpTo (h.agree hs ((s.frameSent_agrees _).trans (State.transmit_agrees _))) _
  · exact hs

theorem BlockInvariant.resetEffect : I s.resetEffect := by
  unfold State.resetEffect
  split
  · exact h.reset s.softReset_atReset
  · exact hs

/-! ### Commands and steps -/

theorem BlockInvariant.live {f : State → State} (hf : I (f s)) {t : State} (ht : live s f = .next t) : I t := by
  unfold Machine.live at ht
  split at ht <;> cases ht
  · exact hs
  · exact h.agree hf (State.transmit_agrees _)

theorem BlockInvariant.request {tag : Byte} {r : Request} {t : State}
    (ht : request tag r (Machine.requestOwner tag r) s = .next t) : I t := by
  refine h.live hs ?_ ht
  split
  · unfold State.handleWith
    split
    · exact h.agree (h.requestOwner hs tag r) ⟨rfl, rfl, rfl, rfl⟩
    · exact h.agree hs ⟨rfl, rfl, rfl, rfl⟩
  · exact h.agree hs (s.joinRequests_agrees _)

theorem BlockInvariant.exec {i : Instr} {t : State} (ht : exec i s = .next t) : I t := by
  cases hr : asRequest i with
  | some x =>
    rw [exec_eq_request hr] at ht
    exact h.request hs ht
  | none =>
    cases he : blockEvent i with
    | some f =>
      rw [exec_eq_live he] at ht
      exact h.live hs (h.event he hs) ht
    | none =>
      cases i with
      | requestUnknownType tag typ payload => exact h.live (f := (·.arrive _)) hs (h.arrive hs _) ht
      | resetTakesEffect => exact h.live hs (h.resetEffect hs) ht
      | powerOnReset rate1 rate0 e =>
        cases ht
        exact h.reset ⟨fun p => ⟨_, State.pair_keepInputs (s := s) rfl p⟩, rfl, rfl, rfl⟩
      | resetPinLow =>
        cases ht
        exact h.agree hs ⟨rfl, rfl, rfl, rfl⟩
      | frameReceived cs =>
        exact h.live (f := fun s => (s.rescan []).rescan (fresh cs)) hs (h.receive (h.receive hs _ _) _ _) ht
      | frameAgeExpired => exact h.live (f := (·.rescan [])) hs (h.receive hs _ _) ht
      | transmitFrameEnd => exact h.live hs (h.transmitEnd hs) ht
      | timebaseFractionIncrement => exact h.live (f := State.fractionIncrement) hs (h.agree hs ⟨rfl, rfl, rfl, rfl⟩) ht
      | returnSample | returnLossDeclared | periodBoundary | farActivityBlock | farToneMillisecond | passBegin | passEnd
      | sweepCompletion | commandFrameEnd | driveErrorStop | receptionStart | replyBit | claimBurstEnd | keepBurstEnd
      | claimWon | claimTimeout | collision | toneSymbolMidpoint => cases he
      | _ => cases hr

/-- Such an invariant is kept by every step. -/
theorem BlockInvariant.step {t : State} (ht : step s = .next t) : I t := by
  unfold Machine.step at ht
  split at ht
  next c rest _ =>
    have popped : I { s with pending := rest } := h.agree hs ⟨rfl, rfl, rfl, rfl⟩
    exact h.exec popped ht
  · unfold idle at ht
    split at ht
    · cases ht
      exact hs
    · split at ht
      · exact h.exec hs ht
      · cases ht
        exact h.tick hs

end

end Sys2Proof.Machine
end

section
/-! The bank, the sweeps and the roles in agreement (R65, R69, R71 to R73, R161): what an operation may write without touching
their agreement, and how plans, grants, abandonments and the quiet guard keep it. -/

namespace Sys2Proof.Machine

/-! ### What the agreement reads of a pair -/

theorem PairState.inBank_iff {q : PairState} : q.inBank = true ↔ ∃ w, q.sweep = some w ∧ w.stage = .inBank := by
  unfold PairState.inBank
  cases q.sweep <;> simp

theorem PairState.inBank_of_no_sweep {q : PairState} (h : q.sweep = none) : q.inBank = false := by
  unfold PairState.inBank
  rw [h]

theorem PairState.fits_of_no_sweep {q : PairState} (h : q.sweep = none) : q.sweepFitsRole = true := by
  unfold PairState.sweepFitsRole
  rw [h]
  cases q.role <;> rfl

/-- Outside YIELDING a sweep fits HOLDER and LOCAL, and NO SWEEP fits every role (R65, R66). -/
theorem PairState.fits_iff {q : PairState} (hy : q.role.name ≠ .yielding) :
    q.sweepFitsRole = true ↔ q.role.name = .holder ∨ q.role.name = .synthetic ∨ q.sweep = none := by
  unfold PairState.sweepFitsRole
  cases hr : q.role <;> simp [hr, Role.name] at hy ⊢

/-- A role in which a pair may hold the line or LOCAL fits every sweep (R66). -/
theorem PairState.fits_of_able {q : PairState} (h : q.role.name = .holder ∨ q.role = .synthetic) :
    q.sweepFitsRole = true := by
  unfold PairState.sweepFitsRole
  cases hr : q.role <;> simp [hr, Role.name] at h ⊢

/-- In PARKED, LISTEN and CLAIMING a pair is NO SWEEP (R66, R71). -/
theorem PairState.no_sweep_of_fits {q : PairState} (h : q.sweepFitsRole = true)
    (hr : q.role.name = .parked ∨ q.role.name = .listen ∨ q.role.name = .claiming) : q.sweep = none := by
  unfold PairState.sweepFitsRole at h
  cases hq : q.role <;> simp [hq, Role.name] at h hr <;> exact h

/-- A pair that is PASS READY is HOLDER or LOCAL (R66, R72). -/
theorem PairState.able_of_passReady {q : PairState} (h : q.sweepFitsRole = true) (hr : q.passReady = true) :
    q.role.name = .holder ∨ q.role = .synthetic := by
  obtain ⟨w, hw, _⟩ := PairState.passReady_iff.mp hr
  unfold PairState.sweepFitsRole at h
  cases hq : q.role <;> simp [hq, hw, hr, Role.name] at h ⊢

/-- An update of a pair after which the bank still agrees with its sweep, and the sweep with its role. -/
structure SweepKept (q q' : PairState) : Prop where
  inBank : q'.inBank = q.inBank
  fits : q.sweepFitsRole = true → q'.sweepFitsRole = true

theorem SweepKept.refl (q : PairState) : SweepKept q q := ⟨rfl, id⟩

theorem SweepKept.trans {q q' q'' : PairState} (h : SweepKept q q') (h' : SweepKept q' q'') : SweepKept q q'' :=
  ⟨h'.inBank.trans h.inBank, fun hf => h'.fits (h.fits hf)⟩

section
variable {q q' : PairState}

theorem SweepKept.of_fits (hs : q'.sweep = q.sweep) (hf : q.sweepFitsRole = true → q'.sweepFitsRole = true) :
    SweepKept q q' := by
  refine ⟨?_, hf⟩
  unfold PairState.inBank
  rw [hs]

/-- The role enters only by its name, and by the guard of a yield. -/
theorem SweepKept.of_name (hs : q'.sweep = q.sweep) (hn : q'.role.name = q.role.name)
    (hy : q.role.name = .yielding → q'.role = q.role) : SweepKept q q' := by
  refine .of_fits hs fun hf => ?_
  by_cases yields : q.role.name = .yielding
  · unfold PairState.sweepFitsRole PairState.passReady at hf ⊢
    rwa [hs, hy yields]
  · rw [PairState.fits_iff (by rwa [hn]), hn, hs]
    exact (PairState.fits_iff yields).mp hf

theorem SweepKept.of_same (hs : q'.sweep = q.sweep) (hr : q'.role = q.role) : SweepKept q q' :=
  .of_name hs (congrArg Role.name hr) fun _ => hr

theorem SweepKept.of_no_sweep (h : q.inBank = false) (h' : q'.sweep = none) : SweepKept q q' :=
  ⟨(PairState.inBank_of_no_sweep h').trans h.symm, fun _ => PairState.fits_of_no_sweep h'⟩

theorem SweepKept.of_able (hs : q'.sweep = q.sweep) (hr : q'.role.name = .holder ∨ q'.role = .synthetic) :
    SweepKept q q' := .of_fits hs fun _ => PairState.fits_of_able hr

end

/-! ### Operations that leave the agreement alone -/

/-- The bank holds the same pair's pass as before, and every pair's sweep is kept. -/
structure SweepsKept (s t : State) : Prop where
  holder : t.bank.holder = s.bank.holder
  pair : ∀ p : Pair, SweepKept (s.pair p) (t.pair p)

theorem SweepsKept.refl (s : State) : SweepsKept s s := ⟨rfl, fun _ => .refl _⟩

theorem SweepsKept.trans {s t u : State} (h : SweepsKept s t) (h' : SweepsKept t u) : SweepsKept s u :=
  ⟨h'.holder.trans h.holder, fun p => (h.pair p).trans (h'.pair p)⟩

theorem SweepInv.kept {s t : State} (h : SweepInv s) (hk : SweepsKept s t) : SweepInv t :=
  ⟨fun p => by rw [hk.holder, (hk.pair p).inBank]; exact h.bank p, fun p => (hk.pair p).fits (h.roles p)⟩

theorem SweepsKept.foldl {α : Type} {f : State → α → State} (hf : ∀ s x, SweepsKept s (f s x)) (xs : List α)
    (s : State) : SweepsKept s (xs.foldl f s) := by
  induction xs generalizing s with
  | nil => exact .refl s
  | cons x xs ih => exact (hf s x).trans (ih _)

theorem BookKept.sweeps {s t : State} (h : BookKept s t) : SweepsKept s t :=
  ⟨by rw [h.bank], fun p => by rw [h.pair p]; exact .refl _⟩

theorem BlocksAgree.sweeps {s t : State} (h : BlocksAgree s t) : SweepsKept s t :=
  ⟨by rw [h.bank], fun p => by unfold State.pair; rw [h.pairs]; exact .refl _⟩

theorem SweepsKept.setPair {s : State} {p : Pair} {q : PairState} (h : SweepKept (s.pair p) q) :
    SweepsKept s (s.setPair p q) := ⟨rfl, State.forall_pair_setPair SweepKept.refl h⟩

theorem SweepsKept.modPair {s : State} {p : Pair} {f : PairState → PairState}
    (h : SweepKept (s.pair p) (f (s.pair p))) : SweepsKept s (s.modPair p f) := .setPair h

theorem State.withBank_sweeps {s : State} {b : Bank} (h : b.holder = s.bank.holder) :
    SweepsKept s { s with bank := b } := ⟨h, fun p => .refl (s.pair p)⟩

/-! The tone fields and the queue's next start (R7, R117). -/

theorem State.modTone_sweeps (s : State) (p : Pair) (f : ToneField → ToneField) :
    SweepsKept s (s.modPair p fun q => { q with tone := f q.tone }) := .modPair (.of_same rfl rfl)

theorem State.orderKeep_sweeps (s : State) (p : Pair) : SweepsKept s (s.orderKeep p) := by
  rw [State.orderKeep_eq]
  exact s.modTone_sweeps p keepOrdered

theorem State.releaseTone_sweeps (s : State) (p : Pair) : SweepsKept s (s.releaseTone p) := by
  rcases s.releaseTone_cases p with ⟨_, h⟩ | ⟨rest, _, h⟩ | ⟨rest, _, h⟩ <;> rw [h]
  · exact s.modTone_sweeps p fun _ => ⟨.free, []⟩
  · exact s.modTone_sweeps p fun _ => ⟨.keepBurst 0, rest⟩
  · exact (s.modTone_sweeps p fun _ => ⟨.commandFrame, rest⟩).trans (State.beginTransmission_kept _).sweeps

theorem State.askTone_sweeps (s : State) (p : Pair) : SweepsKept s (s.askTone p) := by
  rcases s.askTone_cases p with ⟨_, h⟩ | ⟨_, h⟩ <;> rw [h]
  · exact (s.modTone_sweeps p fun t => { t with use := .commandFrame }).trans (State.beginTransmission_kept _).sweeps
  · exact (s.modTone_sweeps p fun t => { t with waiting := t.waiting ++ [.commandFrame] }).trans
      (State.modFlight_kept ..).sweeps

theorem State.startNext_sweeps (s : State) : SweepsKept s s.startNext := by
  rcases s.startNext_cases with h | ⟨_, _, _, h⟩ <;> rw [h]
  · exact .refl s
  · exact (s.withQueue_kept _).sweeps.trans (State.askTone_sweeps ..)

/-! The five stages of a completion (R74): no stage writes a sweep, a role or the bank. -/

theorem State.abandonLearning_sweeps (s : State) (p : Pair) (c : LearnCause) : SweepsKept s (s.abandonLearning p c) := by
  rcases s.abandonLearning_cases p c with ⟨_, h⟩ | ⟨_, h⟩ <;> rw [h]
  · exact .refl s
  · refine .trans ?_ (State.setPairFlag_kept _ p .learnDone).sweeps
    exact .setPair (.of_same rfl rfl)

theorem State.learningStage_sweeps (s : State) (p : Pair) (ms : List WindowMeasurement) (number : BitVec 48)
    (stamp : LineTime) : SweepsKept s (s.learningStage p ms number stamp) := by
  unfold State.learningStage State.countSweep
  split
  · exact .refl s
  next mode target counted suspended _ =>
    split
    · have added : SweepsKept s (s.modPair p fun q => { q with learn := .active mode target counted (suspended + 1) }) :=
        .modPair (.of_same rfl rfl)
      dsimp only
      split
      · exact added.trans (State.abandonLearning_sweeps ..)
      · exact added
    · have added : SweepsKept s (s.modPair p fun q => { q with
          records := q.records.map (·.learn q.config.presence ms)
          learn := .active mode target (counted + 1) suspended }) := .modPair (.of_same rfl rfl)
      have finished (s : State) : SweepsKept s (s.finishLearning p target number stamp) :=
        (SweepsKept.modPair (.of_same rfl rfl)).trans (State.setPairFlag_kept ..).sweeps
      dsimp only
      split
      · exact added.trans (finished _)
      · exact added

theorem State.judgeStages_sweeps (s : State) (p : Pair) (ks : List Known) (n : BitVec 48) (stamp : LineTime) :
    SweepsKept s (s.judgeStages p ks n stamp) := by
  have isolated (s : State) (named : List Nat) : SweepsKept s (s.isolationStage p ks named) :=
    (((BookKept.foldl (State.verifyPass_kept ks) _ s).trans (BookKept.foldl State.waitingPass_kept _ _)).trans
      (BookKept.foldl State.autoStart_kept _ _)).sweeps.trans (State.startNext_sweeps _)
  unfold State.judgeStages
  split
  · exact isolated s []
  · exact (s.localize_kept ..).sweeps.trans (isolated _ _)

theorem State.stages_sweeps (s : State) (p : Pair) (w : Sweep) (stamp : LineTime) :
    SweepsKept s (s.stages p w stamp) := by
  have judged (s : State) (js : List Judged) : SweepsKept s (s.tableStage p js) :=
    (SweepsKept.modPair (.of_same rfl rfl)).trans
      ((State.setPairFlagIf_kept ..).trans (State.setPairFlagIf_kept ..)).sweeps
  have published (s : State) (b : PublishedSweep) : SweepsKept s (s.publish p b) :=
    (SweepsKept.modPair (.of_same rfl rfl)).trans (State.setPairFlag_kept ..).sweeps
  have released (s : State) : SweepsKept s (s.releaseHold p) := .modPair (.of_same rfl rfl)
  exact ((((judged s _).trans (State.learningStage_sweeps ..)).trans (State.judgeStages_sweeps ..)).trans
    (published _ _)).trans (released _)

/-! ### While one pair's role changes -/

/-- The agreement but for the role of one pair, which a change of role meets before Sweep Control has acted on it. -/
structure SweepInvExcept (p : Pair) (s : State) : Prop where
  bank : ∀ x : Pair, s.bank.holder = some x ↔ (s.pair x).inBank = true
  roles : ∀ x : Pair, x ≠ p → (s.pair x).sweepFitsRole = true

theorem SweepInv.except {s : State} (h : SweepInv s) (p : Pair) : SweepInvExcept p s := ⟨h.bank, fun x _ => h.roles x⟩

section
variable {p : Pair} {s : State} (h : SweepInvExcept p s)
include h

theorem SweepInvExcept.inv (hf : (s.pair p).sweepFitsRole = true) : SweepInv s := by
  refine ⟨h.bank, fun x => ?_⟩
  by_cases hx : x = p
  · rwa [hx]
  · exact h.roles x hx

theorem SweepInvExcept.kept {t : State} (hk : SweepsKept s t) : SweepInvExcept p t :=
  ⟨fun x => by rw [hk.holder, (hk.pair x).inBank]; exact h.bank x, fun x hx => (hk.pair x).fits (h.roles x hx)⟩

/-- One pair written, and the bank with it so that it agrees with that pair's sweep. -/
theorem SweepInvExcept.update {t : State} {q : PairState} (hp : t.pairs = s.pairs.set p q)
    (own : t.bank.holder = some p ↔ q.inBank = true)
    (others : ∀ x, x ≠ p → (t.bank.holder = some x ↔ s.bank.holder = some x)) : SweepInvExcept p t := by
  have other (x : Pair) (hx : x ≠ p) : t.pair x = s.pair x := by
    unfold State.pair
    rw [hp, PerPair.get_set_other _ _ hx]
  refine ⟨fun x => ?_, fun x hx => ?_⟩
  · by_cases hx : x = p
    · unfold State.pair
      rw [hp, hx, PerPair.get_set_same]
      exact own
    · rw [others x hx, other x hx]
      exact h.bank x
  · rw [other x hx]
    exact h.roles x hx

/-- The pair enters a role. -/
theorem SweepInvExcept.setRole (r : Role) (c : RoleCause) : SweepInvExcept p (s.setRole p r c) :=
  h.update (t := s.setRole p r c) rfl (h.bank p) fun _ _ => .rfl

/-- The sweep of the pair is abandoned, its pass in the bank aborted (R41, R71, R73). -/
theorem SweepInvExcept.abandonSweep (hd : (s.pair p).completionDue = false) : SweepInv (s.abandonSweep p) := by
  have gone : ¬(s.bankWithout p).holder = some p := by
    unfold State.bankWithout
    split
    · exact fun held => nomatch held
    next hb =>
      intro held
      obtain ⟨w, hw, _⟩ := PairState.inBank_iff.mp ((h.bank p).mp held)
      exact hb ⟨by rw [hw]; rfl, held⟩
  have stays (x : Pair) (hx : x ≠ p) : (s.bankWithout p).holder = some x ↔ s.bank.holder = some x := by
    unfold State.bankWithout
    split
    next hb =>
      rw [hb.2]
      exact ⟨(fun e => nomatch e), fun e => absurd (Option.some.inj e).symm hx⟩
    · exact .rfl
  rw [State.abandonSweep_eq hd]
  refine (h.update (q := { s.pair p with sweep := none }) rfl ⟨fun hb => absurd hb gone, Bool.noConfusion⟩ stays).inv ?_
  refine PairState.fits_of_no_sweep ?_
  exact congrArg PairState.sweep (State.pair_setPair_same s p _)

/-- The guard that a yield sets waits for a pass where a sweep is left, which is not PASS READY (R72, R161, R162). -/
theorem SweepInvExcept.setGuard (m : YieldMode) {pass : Bool} (exchange : Bool)
    (hf : ((s.pair p).sweep.isNone || (pass && !(s.pair p).passReady)) = true) :
    SweepInv (s.setGuard p m pass exchange) := by
  have written := s.setGuard_yield p m pass exchange
  obtain ⟨_, _, _, _, own⟩ := written.own
  have pairs : (s.setGuard p m pass exchange).pairs
      = s.pairs.set p ((s.setGuard p m pass exchange).pair p) := by
    refine PerPair.ext_get fun x => ?_
    by_cases hx : x = p
    · rw [hx, PerPair.get_set_same]
      rfl
    · rw [PerPair.get_set_other _ _ hx]
      exact written.others x hx
  refine (h.update pairs ?_ fun x _ => by rw [written.bank]).inv ?_
  · rw [written.bank, own]
    exact h.bank p
  · rcases s.setGuard_cases p m pass exchange with ⟨_, e⟩ | ⟨hp, _, e⟩ <;> rw [e]
    · rw [State.pair_modPair_same]
      exact hf
    · rw [hp] at hf
      rw [State.pair_finishYield_same]
      exact PairState.fits_of_no_sweep (by simpa using hf)

end

/-- A pair without a sweep may enter every role. -/
theorem SweepInv.setRole_of_no_sweep {p : Pair} {s : State} (h : SweepInv s) (hn : (s.pair p).sweep = none) (r : Role)
    (c : RoleCause) : SweepInv (s.setRole p r c) := by
  refine ((h.except p).setRole r c).inv (PairState.fits_of_no_sweep ?_)
  rwa [State.pair_setRole_same]

/-- Every pair may enter HOLDER and LOCAL. -/
theorem SweepInv.setRole_of_able {s : State} (h : SweepInv s) (p : Pair) {r : Role}
    (hr : r.name = .holder ∨ r = .synthetic) (c : RoleCause) : SweepInv (s.setRole p r c) := by
  refine ((h.except p).setRole r c).inv (PairState.fits_of_able ?_)
  rwa [State.pair_setRole_same]

/-! ### Plans, grants and reports -/

section
variable {s : State} (h : SweepInv s)
include h

theorem SweepInv.planSweep (await : Bool) (p : Pair) : SweepInv (s.planSweep await p) := by
  rcases s.planSweep_cases await p with e | ⟨hn, able, e⟩ <;> rw [e]
  · exact h
  · refine h.kept (.setPair ⟨?_, fun _ => ?_⟩)
    · rw [PairState.inBank_of_no_sweep hn]
      rfl
    · exact PairState.fits_of_able (q := { s.pair p with sweep := _ }) (PairState.maySweep_iff.mp able).1

/-- A grant goes to a pair that is PASS READY, so to a HOLDER or one in LOCAL (R66, R69). -/
theorem SweepInv.arbitrate : SweepInv s.arbitrate := by
  rcases s.arbitrate_cases with e | ⟨p, w, hb, hf, _, e⟩
  · rwa [e]
  · have ready : (s.pair p).passReady = true := List.find?_some (p := fun p => (s.pair p).passReady) hf
    have free (x : Pair) (hx : x ≠ p) : (s.arbitrate.bank.holder = some x ↔ s.bank.holder = some x) := by
      rw [e, hb]
      exact ⟨fun held => absurd (Option.some.inj held).symm hx, fun held => nomatch held⟩
    refine ((h.except p).update (t := s.arbitrate)
      (q := { s.pair p with sweep := some { w with stage := .inBank } }) (by rw [e]; rfl) ?_ free).inv ?_
    · rw [e]
      exact ⟨fun _ => rfl, fun _ => rfl⟩
    · refine PairState.fits_of_able ?_
      rw [(s.arbitrate_kept.pair p).role]
      exact PairState.able_of_passReady (h.roles p) ready

theorem SweepInv.considerSweep (p : Pair) : SweepInv (s.considerSweep p) := (h.planSweep false p).arbitrate

theorem SweepInv.replan (p : Pair) : SweepInv (s.replan p) := (h.planSweep true p).arbitrate

/-- Sweep Control reports a pair that has become NO SWEEP (R65, R162). -/
theorem SweepInv.reportLeftBank {p : Pair} (hn : (s.pair p).sweep = none) : SweepInv (s.reportLeftBank p) := by
  unfold State.reportLeftBank
  split
  · exact (h.except p).setGuard _ _ (by rw [hn]; rfl)
  · exact h

/-- The end of the exchange leaves what the guard waits for of the sweep (R162). -/
theorem SweepInv.reportExchangeEnd (p : Pair) : SweepInv (s.reportExchangeEnd p) := by
  unfold State.reportExchangeEnd
  split
  next m pass hr =>
    have fits := h.roles p
    unfold PairState.sweepFitsRole at fits
    rw [hr] at fits
    exact (h.except p).setGuard m false fits
  · exact h

/-! ### Completions (R65, R70, R73, R74) -/

theorem SweepInv.finishSweep (p : Pair) : SweepInv (s.finishSweep p) := by
  unfold State.finishSweep
  split
  next w hw =>
    split
    next stamp hs =>
      have staged := s.stages_sweeps p w stamp
      have left : ((s.stages p w stamp).pair p).inBank = false := by
        rw [(staged.pair p).inBank]
        unfold PairState.inBank
        simp [hw, hs]
      have dropped := (h.kept staged).kept (.modPair (p := p) (f := fun q => { q with sweep := none })
        (.of_no_sweep left rfl))
      exact dropped.reportLeftBank (congrArg PairState.sweep (State.pair_modPair_same _ p _))
    · exact h
  · exact h

theorem SweepInv.takeCompletion (p : Pair) : SweepInv (s.takeCompletion p) := by
  unfold State.takeCompletion
  split
  · exact (h.finishSweep p).kept (State.transmit_kept _).sweeps
  · exact h

theorem SweepInv.completeSweep (p : Pair) : SweepInv (s.completeSweep p) := by
  unfold State.completeSweep
  split
  · exact (h.finishSweep p).replan p
  · exact h

/-! ### Yields (R71, R72, R161) -/

/-- After the sweep has been told, its pass is in the bank or it is abandoned: none is PASS READY (R72). -/
theorem SweepInv.yieldBegun {p : Pair} (m : YieldMode) (c : RoleCause) (hd : (s.pair p).completionDue = false) :
    SweepInvExcept p (s.yieldBegun p m c) ∧ ((s.yieldBegun p m c).pair p).passReady = false := by
  have entered := (h.except p).setRole (.yielding m false false) c
  have due : ((s.setRole p (.yielding m false false) c).pair p).completionDue = false := by
    rwa [State.pair_setRole_same]
  have abandoned : SweepInvExcept p ((s.setRole p (.yielding m false false) c).abandonSweep p)
      ∧ (((s.setRole p (.yielding m false false) c).abandonSweep p).pair p).passReady = false := by
    refine ⟨(entered.abandonSweep due).except p, ?_⟩
    rw [State.abandonSweep_eq due]
    exact congrArg PairState.passReady (State.pair_setPair_same _ p _)
  have told : SweepInvExcept p ((s.setRole p (.yielding m false false) c).yieldSweep p m)
      ∧ (((s.setRole p (.yielding m false false) c).yieldSweep p m).pair p).passReady = false := by
    unfold State.yieldSweep State.abandonUnlessRunning
    split
    · exact abandoned
    · split
      next runs =>
        refine ⟨entered, ?_⟩
        have left := h.passInBank_of_runs (p := p) runs
        rw [State.pair_setRole_same]
        unfold PairState.passInBank at left
        unfold PairState.passReady
        cases hw : (s.pair p).sweep <;> simp_all
      · exact abandoned
  obtain ⟨_, _, sweep⟩ := ((s.setRole p (.yielding m false false) c).yieldSweep p m).abandonLearning_role p .role
  refine ⟨told.1.kept (State.abandonLearning_sweeps ..), ?_⟩
  unfold State.yieldBegun PairState.passReady
  rw [sweep]
  exact told.2

theorem SweepInv.enterYielding {p : Pair} (m : YieldMode) (c : RoleCause) (hd : (s.pair p).completionDue = false) :
    SweepInv (s.enterYielding p m c) := by
  obtain ⟨begun, unready⟩ := h.yieldBegun m c hd
  rw [State.enterYielding_eq]
  refine (begun.setGuard m _ ?_).arbitrate
  unfold PairState.passInBank
  unfold PairState.passReady at unready ⊢
  cases hw : ((s.yieldBegun p m c).pair p).sweep <;> simp_all

end

/-- A pair leaves its mode: nothing of its sweep is left for the role that it has entered (R15, R16, R71). -/
theorem SweepInvExcept.leaveMode {p : Pair} {s : State} (h : SweepInvExcept p s)
    (hd : (s.pair p).completionDue = false) : SweepInv (s.leaveMode p) := by
  have left := ((h.abandonSweep hd).kept (State.abandonLearning_sweeps _ p .role)).kept (State.loseRole_kept _ p).sweeps
  exact (left.kept (.modPair (.of_same rfl rfl))).arbitrate

end Sys2Proof.Machine
end

section
/-! Every step keeps the bank, the sweeps and the roles in agreement: the events, the requests and the clock in turn (R65, R69,
R71 to R73, R161). -/

namespace Sys2Proof.Machine

/-! ### What the events write of the bank and of a pair -/

@[simp] theorem Bank.holder_disturbed (b : Bank) (p : Pair) (i : Nat) : (b.disturbed p i).holder = b.holder := by
  cases b with
  | running l done => unfold Bank.disturbed; dsimp only; split <;> rfl
  | _ => rfl

@[simp] theorem Bank.holder_takeChip (b : Bank) (p : Pair) (order position : Nat) (x : Int) :
    (b.takeChip p order position x).holder = b.holder := by
  cases b with
  | running l done => unfold Bank.takeChip; dsimp only; split <;> rfl
  | _ => rfl

@[simp] theorem Bank.holder_countPeriod (b : Bank) (p : Pair) : (b.countPeriod p).holder = b.holder := by
  cases b with
  | running l done => unfold Bank.countPeriod; dsimp only; split <;> rfl
  | _ => rfl

@[simp] theorem Bank.holder_begin (b : Bank) (reception : Option Nat) : (b.begin reception).holder = b.holder := by
  cases b with
  | armed l => cases reception <;> rfl
  | _ => rfl

theorem PairState.crossBoundary_kept (q : PairState) : SweepKept q q.crossBoundary := by
  have sweep : q.crossBoundary.sweep = q.sweep.map fun w => { w with awaitBoundary := false } := rfl
  have role : q.crossBoundary.role = q.role := rfl
  constructor
  · unfold PairState.inBank
    rw [sweep]
    cases q.sweep <;> rfl
  · unfold PairState.sweepFitsRole PairState.passReady
    rw [sweep, role]
    cases q.sweep <;> exact id

/-- The reports of far activity change a timer of a role state, not the role state (R155, R163). -/
theorem Role.name_farBegins (r : Role) : r.farBegins.name = r.name ∧ (r.name = .yielding → r.farBegins = r) := by
  unfold Role.farBegins
  split <;> simp [Role.name]

theorem Role.name_farEnds (r : Role) : r.farEnds.name = r.name ∧ (r.name = .yielding → r.farEnds = r) := by
  unfold Role.farEnds
  split <;> simp [Role.name]

theorem Role.name_tick (r : Role) : r.tick.name = r.name ∧ (r.name = .yielding → r.tick = r) := by
  unfold Role.tick
  split <;> simp [Role.name]

theorem PairState.tick_kept (q : PairState) : SweepKept q q.tick :=
  .of_name rfl q.role.name_tick.1 q.role.name_tick.2

/-- Where a pair has a sweep, any other sweep fits its role as well, but for a pass that waits in YIELDING (R72). -/
theorem PairState.fits_of_swept {q : PairState} {w v : Sweep} (h : q.sweepFitsRole = true) (hw : q.sweep = some w)
    (hy : q.role.name = .yielding → v.stage ≠ .ready) :
    ({ q with sweep := some v } : PairState).sweepFitsRole = true := by
  unfold PairState.sweepFitsRole at h ⊢
  rw [hw] at h
  cases hr : q.role with
  | holder | synthetic => rfl
  | yielding m pass exchange =>
    simp only [hr, Option.isNone_some, Bool.false_or, Bool.and_eq_true] at h
    simp [h.1, PairState.passReady, hy (by rw [hr]; rfl)]
  | _ => simp [hr] at h

/-! ### Exchanges (R119 to R130) -/

section
variable {s : State} (h : SweepInv s)
include h

theorem SweepInv.unmuteRecord (p : Pair) (i : Nat) : SweepInv (s.unmuteRecord p i) :=
  (h.kept (.modPair (.of_same rfl rfl))).considerSweep p

theorem SweepInv.tableEffect (e : QueueEntry) : SweepInv (s.tableEffect e) := by
  unfold State.tableEffect
  split
  · exact h.kept (.modPair (.of_same rfl rfl))
  · exact h.unmuteRecord ..
  · exact h.unmuteRecord ..
  · exact h

theorem SweepInv.endExchange (e : QueueEntry) (x : ExchangeResult) (reply : List Byte) :
    SweepInv (s.endExchange e x reply) := by
  have settled := (h.kept (s.settle_kept e x reply).sweeps).reportExchangeEnd e.pair
  unfold State.endExchange
  dsimp only
  split
  · exact (settled.tableEffect e).kept (State.startNext_sweeps _)
  · exact settled.kept (State.startNext_sweeps _)

theorem SweepInv.endAttempt (e : QueueEntry) (x : ExchangeResult) (reply : List Byte) :
    SweepInv (s.endAttempt e x reply) := by
  unfold State.endAttempt
  split
  · exact h.kept ((s.modFlight_kept _).sweeps.trans (State.askTone_sweeps ..))
  · exact h.endExchange ..

theorem SweepInv.midpoint (readback : Tone) : SweepInv (s.midpoint readback) := by
  unfold State.midpoint
  split
  · split
    · exact (h.kept (.modPair (.of_same rfl rfl))).kept (State.modFlight_kept ..).sweeps
    · exact h
  · exact h

theorem SweepInv.frameEnd : SweepInv s.frameEnd := by
  unfold State.frameEnd
  split
  · split
    · dsimp only
      split
      · exact (h.kept (s.releaseTone_sweeps _)).endExchange ..
      · exact (h.kept (s.releaseTone_sweeps _)).kept (State.modFlight_kept ..).sweeps
    · exact h
  · exact h

theorem SweepInv.driveStop : SweepInv s.driveStop := by
  unfold State.driveStop
  split
  · split
    · split
      · exact ((h.kept (s.releaseTone_sweeps _)).kept (State.setPairFlag_kept ..).sweeps).endExchange ..
      · exact h
    · exact h
  · exact h

theorem SweepInv.receptionStart : SweepInv s.receptionStart := by
  unfold State.receptionStart
  split
  · split
    · split
      · exact (h.kept (s.modFlight_kept _).sweeps).kept (State.withBank_sweeps (by simp))
      · exact h
    · exact h
  · exact h

theorem SweepInv.replyBit : SweepInv s.replyBit := by
  unfold State.replyBit
  split
  · split
    · split
      · unfold State.judgeBits
        split
        · exact h.endAttempt ..
        · split
          · exact h.endAttempt ..
          · exact h.kept (s.modFlight_kept _).sweeps
      · exact h
    · exact h
  · exact h

theorem SweepInv.cutExchange (p : Pair) : SweepInv (s.cutExchange p) := by
  unfold State.cutExchange
  split
  · split
    · exact (h.kept (.modPair (.of_same rfl rfl))).endExchange ..
    · exact h
  · exact h

/-! ### Roles (R152 to R164) -/

/-- A claim that ends leaves a pair without a sweep (R157, R158, R160). -/
theorem SweepInv.endClaim {p : Pair} (hr : (s.pair p).role.name = .claiming) (c : RoleCause) :
    SweepInv (s.endClaim p c) := by
  have none := PairState.no_sweep_of_fits (h.roles p) (.inr (.inr hr))
  exact (h.setRole_of_no_sweep none .listen c).kept (.modPair (.of_same rfl rfl))

theorem SweepInv.claimBurstEnd (p : Pair) : SweepInv (s.claimBurstEnd p) := by
  unfold State.claimBurstEnd
  split
  next t hr =>
    have role : ((s.releaseTone p).pair p).role = .claiming t .burst := ((s.releaseTone_kept p).pair p).role.trans hr
    refine (h.kept (s.releaseTone_sweeps p)).kept (.modPair (.of_name rfl ?_ ?_)) <;> rw [role]
    · rfl
    · exact fun e => nomatch e
  · exact h

theorem SweepInv.keepBurstEnd (p : Pair) : SweepInv (s.keepBurstEnd p) := by
  unfold State.keepBurstEnd
  split
  · exact h.kept (s.releaseTone_sweeps p)
  · exact h

theorem SweepInv.claimWon (p : Pair) : SweepInv (s.claimWon p) := by
  unfold State.claimWon
  split
  · exact ((h.setRole_of_able p (.inl rfl) .claimWon).considerSweep p).kept (State.startNext_sweeps _)
  · exact h

theorem SweepInv.claimTimeout (p : Pair) : SweepInv (s.claimTimeout p) := by
  unfold State.claimTimeout
  split
  next hd =>
    refine h.endClaim ?_ _
    unfold PairState.claimTimeoutDue at hd
    split at hd
    next hr => rw [hr]; rfl
    · cases hd
  · exact h

theorem SweepInv.collide (p : Pair) : SweepInv (s.collide p) := by
  unfold State.collide
  split
  · split
    · exact ((h.takeCompletion p).kept (State.setPairFlag_kept ..).sweeps).enterYielding _ _
        (s.takeCompletion_not_due p)
    · exact (h.kept ((s.setPairFlag_kept ..).sweeps.trans (State.orderKeep_sweeps ..))).kept
        (.modPair (.of_able rfl (.inl rfl)))
  · exact h

theorem SweepInv.farKeep (p : Pair) : SweepInv (s.farKeep p) := by
  unfold State.farKeep
  split
  next hr => exact h.endClaim (by rw [hr]; rfl) _
  · exact h

/-- A far claim that makes a holder yield finds no completion due (R73, R159). -/
theorem SweepInv.farClaim {p : Pair} (hd : (s.pair p).yieldsOnClaim = true → (s.pair p).completionDue = false) :
    SweepInv (s.farClaim p) := by
  unfold State.farClaim
  split
  next t quiet hr =>
    split
    · exact h.endClaim (by rw [hr]; rfl) _
    · refine h.kept (.modPair (.of_name rfl ?_ ?_)) <;> rw [hr]
      · rfl
      · exact fun e => nomatch e
  next hr =>
    split
    · exact h.kept (s.orderKeep_sweeps p)
    next hp => exact h.enterYielding _ _ (hd (by simp [PairState.yieldsOnClaim, hr, hp, Role.name]))
  · exact h

theorem SweepInv.enterClaiming {p : Pair} (hr : (s.pair p).role = .listen) : SweepInv (s.enterClaiming p) := by
  have none := PairState.no_sweep_of_fits (h.roles p) (.inr (.inl (by rw [hr]; rfl)))
  exact (h.setRole_of_no_sweep none (.claiming 0 .burst) .host).kept (.modPair (.of_same rfl rfl))

/-! ### Modes, samples and detectors (R15 to R26) -/

theorem SweepInv.park {p : Pair} (hd : (s.pair p).completionDue = false) : SweepInv (s.park p) := by
  have silent : SweepInvExcept p (s.parkedRole p) :=
    ((h.except p).setRole .parked .host).kept (.modPair (.of_same rfl rfl))
  rw [State.park_eq]
  exact (silent.leaveMode (State.parkedRole_not_due hd)).kept (.modPair (.of_same rfl rfl))

theorem SweepInv.enterSynthetic (p : Pair) : SweepInv (s.enterSynthetic p) := by
  refine ((h.setRole_of_able p (.inr rfl) .host).kept (.modPair ?_)).considerSweep p
  split <;> exact .of_same rfl rfl

theorem SweepInv.returnSample (p : Pair) (strobe : Option (BitVec 12)) : SweepInv (s.returnSample p strobe) := by
  have ended (q : PairState) : SweepKept q q.endChip := by
    unfold PairState.endChip
    split <;> exact .of_same rfl rfl
  have sampled {s' : State} (h : SweepInv s') (b : Bank) (hb : b.holder = s'.bank.holder) {q : PairState}
      (hq : SweepKept (s'.pair p) q) : SweepInv { s'.setPair p q.endChip with bank := b } :=
    (h.kept (.setPair (hq.trans (ended q)))).kept (State.withBank_sweeps hb)
  unfold State.returnSample
  dsimp only
  split
  · exact h
  · split
    · exact sampled (h.kept (s.modFlight_kept _).sweeps) _ (by simp) (.of_same rfl rfl)
    · exact sampled h _ (by simp) (.of_same rfl rfl)

/-- A declared loss abandons the sweep before it reports it (R71, R162). -/
theorem SweepInv.declareLoss (p : Pair) : SweepInv (s.declareLoss p) := by
  unfold State.declareLoss
  split
  · have notDue := s.takeCompletion_not_due p
    have declared : SweepsKept (s.takeCompletion p) (((s.takeCompletion p).modPair p fun q =>
        { q with det := { q.det with lossDeclared := true, lossRun := 0 } }).setPairFlag p .returnLoss) :=
      (SweepsKept.modPair (.of_same rfl rfl)).trans (State.setPairFlag_kept ..).sweeps
    have begun : SweepInv ((s.takeCompletion p).lossBegun p) :=
      (((h.takeCompletion p).kept declared).except p).abandonSweep (by
        rw [State.pair_setPairFlag, State.pair_modPair_same]
        exact notDue)
    have none : (((s.takeCompletion p).lossBegun p).pair p).sweep = none := by rw [State.pair_lossBegun_same notDue]
    refine SweepInv.arbitrate (SweepInv.cutExchange ?_ p)
    split
    · exact begun
    · exact begun.reportLeftBank none
  · exact h

theorem SweepInv.periodBoundary (p : Pair) : SweepInv (s.periodBoundary p) := by
  have crossed : SweepInv { s.setPair p (s.pair p).crossBoundary with bank := s.bank.countPeriod p } :=
    (h.kept (.setPair (PairState.crossBoundary_kept _))).kept (State.withBank_sweeps (by simp))
  unfold State.periodBoundary
  dsimp only
  split
  · split
    · exact ((crossed.kept (State.setPairFlag_kept ..).sweeps).considerSweep p).kept (State.startNext_sweeps _)
    · exact crossed
  · exact h

theorem SweepInv.activityBlock (p : Pair) : SweepInv (s.activityBlock p) := by
  unfold State.activityBlock
  dsimp only
  split
  · refine h.kept (.setPair ?_)
    split
    · split
      · exact .of_name rfl (Role.name_farBegins _).1 (Role.name_farBegins _).2
      · exact .of_name rfl (Role.name_farEnds _).1 (Role.name_farEnds _).2
    · exact .of_same rfl rfl
  · exact h

/-- A yield on a far claim takes a completion that is due first, so that it finds none (R73, R159). -/
theorem SweepInv.farMillisecond (p : Pair) (f3 f4 : Nat) : SweepInv (s.farMillisecond p f3 f4) := by
  have heard {u : State} (hu : SweepInv u) (hr : (u.pair p).role ≠ .parked) (hd : (u.pair p).hearsClaim f3 = true →
      (u.pair p).yieldsOnClaim = true → (u.pair p).completionDue = false) : SweepInv (u.farMillisecond p f3 f4) := by
    rw [State.farMillisecond_eq hr hd]
    have judged := hu.kept (.setPair (p := p) (q := (u.pair p).heard f3 f4) (.of_same rfl rfl))
    have claimed : (u.pair p).hearsClaim f3 = true → SweepInv ((u.setPair p ((u.pair p).heard f3 f4)).farClaim p) := by
      intro hc
      refine judged.farClaim ?_
      rw [State.pair_setPair_same]
      exact hd hc
    unfold State.answerTones
    dsimp only
    split
    · split
      next hc => exact (claimed hc).farKeep p
      · exact judged.farKeep p
    · split
      next hc => exact claimed hc
      · exact judged
  by_cases hr : (s.pair p).role = .parked
  · unfold State.farMillisecond
    dsimp only
    rwa [if_pos (Role.name_eq_parked.mpr hr)]
  · by_cases hy : (s.pair p).hearsClaim f3 = true ∧ (s.pair p).yieldsOnClaim = true
    · rw [State.farMillisecond_takeCompletion hy.1 hy.2]
      refine heard (h.takeCompletion p) (fun e => ?_) fun _ _ => s.takeCompletion_not_due p
      exact State.takeCompletion_not_parked (mt Role.name_eq_parked.mp hr) (Role.name_eq_parked.mpr e)
    · exact heard h hr fun hc hyields => absurd ⟨hc, hyields⟩ hy

/-! ### Passes (R33, R37, R70) -/

theorem SweepInv.passBegin (p : Pair) : SweepInv (s.passBegin p) := by
  unfold State.passBegin
  split
  · exact h.kept (State.withBank_sweeps (by simp))
  · exact h

/-- The pass of a pair leaves the bank with a sweep that waits, is to be completed, or is gone (R70). -/
theorem SweepInv.passLeft {p : Pair} {q : PairState} (hb : s.bank.holder = some p) (hq : q.inBank = false)
    (hf : q.sweepFitsRole = true) : SweepInv (({ s with bank := .idle } : State).setPair p q) := by
  refine ((h.except p).update (t := ({ s with bank := .idle } : State).setPair p q) rfl ?_ fun x hx => ?_).inv ?_
  · rw [hq]
    exact ⟨(fun e => nomatch e), (fun e => nomatch e)⟩
  · rw [hb]
    exact ⟨(fun e => nomatch e), fun e => absurd (Option.some.inj e).symm hx⟩
  · rwa [State.pair_setPair_same]

theorem SweepInv.takeDelivery {p : Pair} (hb : s.bank.holder = some p) (ms : List WindowMeasurement) :
    SweepInv (({ s with bank := .idle } : State).takeDelivery p ms) := by
  obtain ⟨w, hw, _⟩ := PairState.inBank_iff.mp ((h.bank p).mp hb)
  have own : ({ s with bank := .idle } : State).pair p = s.pair p := rfl
  rw [State.takeDelivery_eq (s := { s with bank := .idle }) hw, own]
  split
  next hy =>
    rw [Sweep.deliver_next hy.1, State.abandonSweep_of_idle rfl rfl]
    refine (h.passLeft hb rfl (PairState.fits_of_no_sweep rfl)).reportLeftBank ?_
    rw [State.pair_setPair_same]
  next hy =>
    by_cases more : w.passNo < w.passes.length
    · rw [Sweep.deliver_next more]
      have still : (s.pair p).role.name ≠ .yielding := fun e => hy ⟨more, e⟩
      exact h.passLeft hb rfl (PairState.fits_of_swept (h.roles p) hw fun e => absurd e still)
    · rw [Sweep.deliver_last (Nat.le_of_not_lt more)]
      exact h.passLeft hb rfl (PairState.fits_of_swept (h.roles p) hw fun _ => SweepStage.noConfusion)

theorem SweepInv.passEnd (p : Pair) : SweepInv (s.passEnd p) := by
  unfold State.passEnd
  split
  next hd =>
    split
    next l done hb =>
      have held : s.bank.holder = some p := by
        rw [hb] at hd ⊢
        simp only [Bank.passEndDue, Bool.and_eq_true, decide_eq_true_eq] at hd
        exact congrArg some hd.1
      exact (h.takeDelivery held _).arbitrate
    · exact h
  · exact h

/-! ### The clock (R1, R154, R155, R163) -/

theorem SweepInv.tick : SweepInv s.tick := by
  have ended (s : State) (p : Pair) : SweepsKept s (s.endLastSymbol p) := by
    unfold State.endLastSymbol
    split
    · exact s.releaseTone_sweeps p
    · exact .refl s
  have ticked : SweepsKept s { s.tickTime with
      pairs := ⟨s.pairs.p1.tick, s.pairs.p2.tick, s.pairs.p3.tick, s.pairs.p4.tick⟩
      queue := s.queue.map (QueueEntry.tick s.tickTime.time)
      port := { s.tickTime.port with tx := s.port.tx.tick } } := by
    refine ⟨?_, fun p => ?_⟩
    · unfold State.tickTime
      split <;> rfl
    · cases p <;> exact PairState.tick_kept _
  exact ((h.kept ticked).kept (.foldl ended allPairs _)).kept (State.transmit_kept _).sweeps

/-! ### Requests -/

theorem SweepInv.configurePair (b : Byte) (ps : List Word) : SweepInv (ownConfigurePair b ps s).1 := by
  refine withPair_kept h (fun p => ?_) b
  dsimp only
  split
  · exact h
  · split
    · exact h
    · refine h.kept (.setPair ?_)
      unfold PairState.configure
      split <;> exact .of_same rfl rfl

/-- A pair that is to park, or to leave LOCAL, has its completion taken first, so that its sweep can be abandoned (R15, R16,
R73). -/
theorem SweepInv.setPairMode (b m : Byte) : SweepInv (ownSetPairMode b m s).1 := by
  refine withPair_kept h (fun p => ?_) b
  have taken := h.takeCompletion p
  have notDue := s.takeCompletion_not_due p
  split
  · unfold setDisabled parkOrRefuse
    split
    · exact h
    · split <;> exact h
    · split
      · exact h
      · dsimp only
        split
        · exact taken.replan p
        · exact taken.park notDue
  · unfold setEnabled
    split
    next hr =>
      have none := PairState.no_sweep_of_fits (h.roles p) (.inl (by rw [hr]; rfl))
      dsimp only
      exact (h.setRole_of_no_sweep none .listen .host).kept (.modPair (.of_same rfl rfl))
    · refine ((taken.except p).setRole .listen .host).leaveMode ?_
      rw [State.pair_setRole_same]
      exact notDue
    · exact h
  · unfold setSynthetic
    split
    · exact (h.kept (.modPair (.of_same rfl rfl))).enterSynthetic p
    · exact h.enterSynthetic p
    · exact h
  · exact h

theorem SweepInv.injectFault (b first : Byte) (f : Half) : SweepInv (ownInjectFault b first f s).1 := by
  refine withPair_kept h (fun p => ?_) b
  dsimp only
  split
  · exact h
  · split
    · exact h
    · split
      · exact h
      · exact h.kept (.setPair (.of_same rfl rfl))

theorem SweepInv.takeRole (b : Byte) : SweepInv (ownTakeRole b s).1 := by
  refine withPair_kept h (fun p => ?_) b
  split
  case h_1 hr => exact h.enterClaiming hr
  all_goals exact h

theorem SweepInv.releaseRole (b m : Byte) : SweepInv (ownReleaseRole b m s).1 := by
  refine withPair_kept h (fun p => ?_) b
  split
  · exact h
  · split
    case h_1 => exact (h.takeCompletion p).enterYielding _ _ (s.takeCompletion_not_due p)
    case h_2 hr => exact h.endClaim (by rw [hr]; rfl) _
    all_goals exact h

/-- A load with first index 1 finds no sweep to drop (R46, R71). -/
theorem SweepInv.loadRepeaters (b first : Byte) (ls : List LoadRecord) : SweepInv (ownLoadRepeaters b first ls s).1 := by
  refine withPair_kept h (fun p => ?_) b
  dsimp only
  split
  · exact h
  next hr =>
    have none : (s.pair p).sweep = none := PairState.no_sweep_of_fits (h.roles p) (by
      rw [Role.name_ne_iff, not_not] at hr
      rcases hr with hr | hr <;> rw [hr]
      · exact .inl rfl
      · exact .inr (.inl rfl))
    split
    · exact h
    · split
      · exact h
      · split
        · exact h
        · unfold State.storeRecords
          dsimp only
          split
          · refine (h.kept (s.removeFaults_kept p).sweeps).kept (.modPair (.of_no_sweep ?_ rfl))
            rw [(s.removeFaults_kept p).pair]
            exact PairState.inBank_of_no_sweep none
          · exact h.kept (.modPair (.of_same rfl rfl))

theorem SweepInv.editRepeater (b i c : Byte) (low high presence baseline : Half) (x : Byte) :
    SweepInv (ownEditRepeater b i c low high presence baseline x s).1 := by
  unfold ownEditRepeater
  split
  · exact h
  · split
    · exact h
    · refine withPair_kept h (fun p => ?_) b
      dsimp only
      split
      · exact h
      · split
        · exact h
        · have edited : SweepInv (s.edited p i.toNat (editChanges c low high presence baseline x)) := by
            unfold State.edited
            dsimp only
            split
            · exact (h.kept (.modPair (.of_same rfl rfl))).considerSweep p
            · exact h.kept (.modPair (.of_same rfl rfl))
          split <;> exact edited

theorem SweepInv.readResults (b r start c : Byte) : SweepInv (ownReadResults b r start c s).1 := by
  unfold ownReadResults
  split
  · exact h
  · refine withPair_kept h (fun p => ?_) b
    have served (q : PairState) (hq : SweepKept (s.pair p) q) :
        SweepInv (s.setPair p (servePage b start.toNat c.toNat q).1) :=
      h.kept (.setPair (hq.trans (.of_same rfl rfl)))
    dsimp only
    split
    · split
      · exact h
      · exact served _ (.of_same rfl rfl)
    · split
      · exact h
      · exact served _ (.refl _)

theorem SweepInv.readTrace (b i : Byte) : SweepInv (ownReadTrace b i s).1 := by
  refine withPair_kept h (fun p => ?_) b
  have refreshed : SweepInv (if (s.pair p).readout.isNone then s.setPair p (s.pair p).refresh else s) := by
    split
    · exact h.kept (.setPair (.of_same rfl rfl))
    · exact h
  dsimp only
  split
  · exact refreshed
  · split <;> exact refreshed

theorem SweepInv.learnBaseline (b n m : Byte) : SweepInv (ownLearnBaseline b n m s).1 := by
  refine withPair_kept h (fun p => ?_) b
  dsimp only
  split
  · exact h
  · split
    · exact h
    · split
      · exact h
      · split
        · exact h
        · exact h.kept (.setPair (.of_same rfl rfl))

theorem SweepInv.abortLearn (b : Byte) : SweepInv (ownAbortLearn b s).1 := by
  refine withPair_kept h (fun p => ?_) b
  split
  · exact h
  · exact h.kept (s.abandonLearning_sweeps ..)

theorem SweepInv.purgeFault (o : Byte) (i : Half) (sel : Byte) : SweepInv (ownPurgeFault o i sel s).1 := by
  have filtered (fs : List FaultRecord) : SweepInv { s with faults := fs } := h.kept (s.withFaults_kept fs _).sweeps
  unfold ownPurgeFault
  split
  · unfold purgeOne
    split
    · exact h
    · split
      · exact h
      · split
        · exact h
        · exact filtered _
  · unfold purgeCleared
    split
    · exact h
    · exact filtered _
  · exact h

theorem SweepInv.hostSequence (id : Half) (r : FaultRecord) (a : Action) (w : Option Half) :
    SweepInv (s.hostSequence id r a w).1 := h.kept ((s.startSequence_kept ..).sweeps.trans (State.startNext_sweeps _))

theorem SweepInv.isolate (i : Half) (a : Byte) : SweepInv (ownIsolate i a s).1 := by
  unfold ownIsolate
  split
  · exact h
  · split
    · exact h
    · split
      · exact h
      · split
        · exact h
        · split
          · exact h
          · split
            · exact h.hostSequence ..
            · exact h

theorem SweepInv.releaseIsolation (i : Half) : SweepInv (ownReleaseIsolation i s).1 := by
  unfold ownReleaseIsolation
  split
  · exact h
  · split
    · exact h
    · split
      · exact h
      · split
        · exact h
        · exact h.hostSequence ..

theorem SweepInv.supervise (tag b i c a : Byte) : SweepInv (ownSupervise tag b i c a s).1 := by
  refine withPair_kept h (fun p => ?_) b
  dsimp only
  split
  · exact h
  · split
    · exact h
    · split
      · exact h
      · split
        · exact h
        · split
          · exact h.kept ((s.enqueue_kept ..).sweeps.trans (State.startNext_sweeps _))
          · exact h

theorem SweepInv.requestOwner (tag : Byte) {r : Request} (hr : changesBlocks r = true) :
    SweepInv (requestOwner tag r s).1 := by
  cases r with
  | configurePair p ps => exact h.configurePair p ps
  | setPairMode p m => exact h.setPairMode p m
  | injectFault p f q => exact h.injectFault p f q
  | takeRole p => exact h.takeRole p
  | releaseRole p m => exact h.releaseRole p m
  | loadRepeaters p f rs => exact h.loadRepeaters p f rs
  | editRepeater p i c lo hi pr b x => exact h.editRepeater p i c lo hi pr b x
  | readResults p r f c => exact h.readResults p r f c
  | readTrace p i => exact h.readTrace p i
  | learnBaseline p n m => exact h.learnBaseline p n m
  | abortLearn p => exact h.abortLearn p
  | purgeFault o i sel => exact h.purgeFault o i sel
  | isolate i a => exact h.isolate i a
  | releaseIsolation i => exact h.releaseIsolation i
  | supervise p i c a => exact h.supervise tag p i c a
  | _ => cases hr

/-! ### Every step -/

theorem SweepInv.event {i : Instr} {f : State → State} (hf : blockEvent i = some f) : SweepInv (f s) := by
  cases i with
  | returnSample p x => cases hf; exact h.returnSample p x
  | returnLossDeclared p => cases hf; exact h.declareLoss p
  | periodBoundary p => cases hf; exact h.periodBoundary p
  | farActivityBlock p => cases hf; exact h.activityBlock p
  | farToneMillisecond p f3 f4 => cases hf; exact h.farMillisecond p f3 f4
  | passBegin p => cases hf; exact h.passBegin p
  | passEnd p => cases hf; exact h.passEnd p
  | sweepCompletion p => cases hf; exact h.completeSweep p
  | commandFrameEnd => cases hf; exact h.frameEnd
  | driveErrorStop => cases hf; exact h.driveStop
  | receptionStart => cases hf; exact h.receptionStart
  | replyBit => cases hf; exact h.replyBit
  | claimBurstEnd p => cases hf; exact h.claimBurstEnd p
  | keepBurstEnd p => cases hf; exact h.keepBurstEnd p
  | claimWon p => cases hf; exact h.claimWon p
  | claimTimeout p => cases hf; exact h.claimTimeout p
  | collision p => cases hf; exact h.collide p
  | toneSymbolMidpoint readback => cases hf; exact h.midpoint readback
  | _ => cases hf

end

theorem SweepInv.of_reset {t : State} (h : BlocksAtReset t) : SweepInv t := by
  have unswept (p : Pair) : (t.pair p).sweep = none := by
    obtain ⟨inputs, own⟩ := h.pair p
    rw [own]
    rfl
  refine ⟨fun p => ?_, fun p => PairState.fits_of_no_sweep (unswept p)⟩
  rw [h.bank, PairState.inBank_of_no_sweep (unswept p)]
  exact ⟨(fun e => nomatch e), (fun e => nomatch e)⟩

theorem sweepInv_blockInvariant : BlockInvariant SweepInv where
  agree h hb := h.kept hb.sweeps
  reset := .of_reset
  owner tag _ _ hr h := h.requestOwner tag hr
  event hf h := h.event hf
  tick h := h.tick

/-- Settles O57: each operation keeps the agreement; one that changes a role finds a completion that is due taken, and has
Sweep Control abandon what the new role does not fit (`SweepInvExcept`). -/
theorem stepKeepsSweepsAndBank : Obligations.StepKeepsSweepsAndBank :=
  fun _ _ hs h => sweepInv_blockInvariant.step hs h

end Sys2Proof.Machine
end

section
/-! READ RESULTS and READ TRACE (R77 to R79, R188): the refresh, the page and its cursor, and the trace of one record. -/

namespace Sys2Proof.Machine

theorem boolOf_of_le {b : Byte} (h : b.toNat ≤ 1) : boolOf b = some (b == 1) := by
  have choices : b = 0 ∨ b = 1 :=
    (Nat.le_one_iff_eq_zero_or_eq_one.mp h).imp (BitVec.eq_of_toNat_eq ·) (BitVec.eq_of_toNat_eq ·)
  rcases choices with rfl | rfl <;> rfl

theorem byte_toNat_eq_zero {b : Byte} : b.toNat = 0 ↔ b = 0 :=
  ⟨fun h => BitVec.eq_of_toNat_eq h, fun h => by rw [h]; rfl⟩

/-! ### READ RESULTS (R77, R78) -/

/-- A pair as READ RESULTS serves it: its readout buffer refreshed where a refresh is due (R77). -/
def PairState.toServe (q : PairState) (due : Bool) : PairState :=
  { q with readout := if due then q.published else q.readout, cursor := if due then 1 else q.cursor }

theorem PairState.toServe_eq (q : PairState) (due : Bool) : (if due then q.refresh else q) = q.toServe due := by
  cases due <;> rfl

section
variable {tag refresh start count : Byte} {p : Pair} {s t : State} {a : Answer}

theorem exec_readResults (hs : s.Ready) (ho : ownReadResults (pairByte p) refresh start count s = (t, a)) :
    exec (.readResults tag (pairByte p) refresh start count) s
      = .next (t.replied 0xA3 tag (a.status.code :: a.data)) :=
  exec_answers (r := .readResults (pairByte p) refresh start count) hs rfl rfl ho

/-- With a legal refresh option the from-index is examined against the buffer, and then the page is served (R78). -/
theorem ownReadResults_eq (hr : refresh.toNat ≤ 1) {due : Bool} (hd : (refresh == 1 || (s.pair p).readout.isNone) = due) :
    ownReadResults (pairByte p) refresh start count s =
      if start ≠ 0 ∧ (bufferResults ((s.pair p).toServe due).readout).length < start.toNat then (s, .refused .notFound)
      else (s.setPair p (servePage (pairByte p) start.toNat count.toNat ((s.pair p).toServe due)).1,
        (servePage (pairByte p) start.toNat count.toNat ((s.pair p).toServe due)).2) := by
  unfold ownReadResults
  rw [boolOf_of_le hr, ← hd]
  simp only [withPair_pairByte, PairState.toServe_eq, ne_eq, byte_toNat_eq_zero]
  rfl

end

/-- The head of a page, item by item; zeros for an empty buffer (R78). -/
theorem bufferHead_eq (buffer : Option PublishedSweep) : bufferHead buffer = match buffer with
    | some b => sweepBytes b.number ++ be32 b.time.seconds ++ u16 b.time.fraction ++ u8 b.passCount ++ u8 b.results.length
    | none => zeros 14 := by cases buffer <;> rfl

/-- A page: at most 16 records from the from-index or the cursor on, and the cursor moved behind it (R78). -/
theorem servePage_eq (number start count : Byte) (q : PairState) :
    let results := bufferResults q.readout
    let first := if start = 0 then q.cursor else start.toNat
    let page := (results.drop (first - 1)).take (min count.toNat 16)
    servePage number start.toNat count.toNat q =
      ({ q with cursor := if count = 0 then q.cursor
          else if results.length ≤ first - 1 + page.length then 1 else first + page.length },
        .ok ([number] ++ bufferHead q.readout ++ u8 first ++ u8 page.length ++ [boolCode q.det.lossDeclared]
          ++ page.flatMap SweepResult.encode)) := by
  unfold servePage cursorAfter
  simp only [byte_toNat_eq_zero]
  rfl

/-! ### READ TRACE (R79) -/

section
variable {tag i : Byte} {p : Pair} {s t : State} {a : Answer}

theorem exec_readTrace (hs : s.Ready) (ho : ownReadTrace (pairByte p) i s = (t, a)) :
    exec (.readTrace tag (pairByte p) i) s = .next (t.replied 0xA4 tag (a.status.code :: a.data)) :=
  exec_answers (r := .readTrace (pairByte p) i) hs rfl rfl ho

/-- The state in which READ TRACE looks for its record: an empty buffer refreshed (R77, R79). -/
def State.traceReady (s : State) (p : Pair) : State :=
  if (s.pair p).readout = none then s.setPair p { s.pair p with readout := (s.pair p).published, cursor := 1 } else s

theorem State.traceReady_eq (s : State) (p : Pair) :
    (if (s.pair p).readout.isNone then s.setPair p (s.pair p).refresh else s) = s.traceReady p := by
  unfold State.traceReady
  cases (s.pair p).readout <;> rfl

theorem State.traceReady_readout (s : State) (p : Pair) : ((s.traceReady p).pair p).readout
    = if (s.pair p).readout = none then (s.pair p).published else (s.pair p).readout := by
  unfold State.traceReady
  split
  · rw [State.pair_setPair_same]
  · rfl

theorem ownReadTrace_found {b : PublishedSweep} {r : SweepResult} (hb : ((s.traceReady p).pair p).readout = some b)
    (hr : b.results.find? (fun x => x.index == i.toNat) = some r) :
    ownReadTrace (pairByte p) i s = (s.traceReady p, .ok (sweepBytes b.number ++ r.trace)) := by
  unfold ownReadTrace
  simp only [withPair_pairByte, State.traceReady_eq, hb, hr]

theorem ownReadTrace_notFound
    (h : (bufferResults ((s.traceReady p).pair p).readout).find? (fun x => x.index == i.toNat) = none) :
    ownReadTrace (pairByte p) i s = (s.traceReady p, .refused .notFound) := by
  unfold ownReadTrace
  simp only [withPair_pairByte, State.traceReady_eq]
  cases hb : ((s.traceReady p).pair p).readout with
  | none => rfl
  | some b =>
    rw [hb] at h
    have missing : b.results.find? (fun x => x.index == i.toNat) = none := h
    simp only [missing]

end

/-- Settles O30: the owners examine the index against the buffer as the refresh leaves it, and serve from it
(`ownReadResults_eq`, `servePage_eq`; `ownReadTrace_found`, `ownReadTrace_notFound`). -/
theorem resultsServedFromBuffer : Obligations.ResultsServedFromBuffer := by
  refine ⟨fun tag refresh start count p s hs hr => ?_, fun tag i p s hs => ?_⟩
  · intro q due buffer results cursor first page
    have owned := ownReadResults_eq (start := start) (count := count) (p := p) (s := s) hr (due := due) rfl
    refine ⟨fun hne hlt => ?_, fun hok => ?_⟩
    · rw [if_pos ⟨hne, hlt⟩] at owned
      exact exec_readResults hs owned
    · have found : ¬(start ≠ 0 ∧ (bufferResults ((s.pair p).toServe due).readout).length < start.toNat) :=
        fun h => hok.elim h.1 (Nat.not_le.mpr h.2)
      rw [if_neg found, servePage_eq, bufferHead_eq] at owned
      exact exec_readResults hs owned
  · intro q s' buffer
    have readout : ((s.traceReady p).pair p).readout = buffer := s.traceReady_readout p
    refine ⟨fun b r hb hr => ?_, fun hn => ?_⟩
    · exact (exec_readTrace hs (ownReadTrace_found (readout.trans hb) hr)).trans rfl
    · exact exec_readTrace hs (ownReadTrace_notFound (by rwa [readout]))

end Sys2Proof.Machine
end

section
/-! The fault list sound, and its action parts in agreement with their records (R81, R82, R135): what leaves the list
alone, what an update of one record keeps, and the sequences of the Isolation Controller. -/

namespace Sys2Proof.Machine

/-! ### What leaves the fault list alone -/

/-- Two states hold the same fault list and the same next fault id. -/
structure SameFaults (s t : State) : Prop where
  faults : t.faults = s.faults
  nextFaultId : t.nextFaultId = s.nextFaultId

theorem SameFaults.refl (s : State) : SameFaults s s := ⟨rfl, rfl⟩

theorem SameFaults.trans {s t u : State} (h : SameFaults s t) (h' : SameFaults t u) : SameFaults s u :=
  ⟨h'.faults.trans h.faults, h'.nextFaultId.trans h.nextFaultId⟩

theorem SameFaults.foldl {α : Type} {f : State → α → State} (hf : ∀ s x, SameFaults s (f s x)) (xs : List α)
    (s : State) : SameFaults s (xs.foldl f s) := by
  induction xs generalizing s with
  | nil => exact .refl s
  | cons x xs ih => exact (hf s x).trans (ih _)

theorem SameFaults.setPair (s : State) (p : Pair) (q : PairState) : SameFaults s (s.setPair p q) := ⟨rfl, rfl⟩

theorem SameFaults.modPair (s : State) (p : Pair) (f : PairState → PairState) : SameFaults s (s.modPair p f) := ⟨rfl, rfl⟩

theorem State.setRole_sameFaults (s : State) (p : Pair) (r : Role) (c : RoleCause) :
    SameFaults s (s.setRole p r c) := ⟨rfl, rfl⟩

theorem State.setPairFlag_sameFaults (s : State) (p : Pair) (k : PairFlag) :
    SameFaults s (s.setPairFlag p k) := ⟨rfl, rfl⟩

theorem State.setPairFlagIf_sameFaults (s : State) (b : Bool) (p : Pair) (k : PairFlag) :
    SameFaults s (s.setPairFlagIf b p k) := by
  unfold State.setPairFlagIf
  split <;> exact ⟨rfl, rfl⟩

theorem State.modFlight_sameFaults (s : State) (f : QueueEntry → QueueEntry) : SameFaults s (s.modFlight f) := ⟨rfl, rfl⟩

theorem State.withQueue_sameFaults (s : State) (es : List QueueEntry) : SameFaults s { s with queue := es } := ⟨rfl, rfl⟩

theorem State.transmit_sameFaults (s : State) : SameFaults s s.transmit := ⟨s.transmit_faults, s.transmit_nextFaultId⟩

/-! The tone fields and the queue's next start (R7, R117). -/

theorem State.askTone_sameFaults (s : State) (p : Pair) : SameFaults s (s.askTone p) := by
  rcases s.askTone_cases p with ⟨_, h⟩ | ⟨_, h⟩ <;> rw [h] <;> exact ⟨rfl, rfl⟩

theorem State.releaseTone_sameFaults (s : State) (p : Pair) : SameFaults s (s.releaseTone p) := by
  rcases s.releaseTone_cases p with ⟨_, h⟩ | ⟨_, _, h⟩ | ⟨_, _, h⟩ <;> rw [h] <;> exact ⟨rfl, rfl⟩

theorem State.startNext_sameFaults (s : State) : SameFaults s s.startNext := by
  rcases s.startNext_cases with h | ⟨_, _, _, h⟩ <;> rw [h]
  · exact .refl s
  · exact (s.withQueue_sameFaults _).trans (State.askTone_sameFaults _ _)

/-! Sweep Control, the table and the Learning Unit (R66, R69, R71, R106 to R110, R129). -/

theorem State.arbitrate_sameFaults (s : State) : SameFaults s s.arbitrate := by
  rcases s.arbitrate_cases with h | ⟨_, _, _, _, _, h⟩ <;> rw [h] <;> exact ⟨rfl, rfl⟩

theorem State.planSweep_sameFaults (s : State) (await : Bool) (p : Pair) : SameFaults s (s.planSweep await p) := by
  rcases s.planSweep_cases await p with h | ⟨_, _, h⟩ <;> rw [h] <;> exact ⟨rfl, rfl⟩

theorem State.considerSweep_sameFaults (s : State) (p : Pair) : SameFaults s (s.considerSweep p) :=
  (s.planSweep_sameFaults false p).trans (State.arbitrate_sameFaults _)

theorem State.replan_sameFaults (s : State) (p : Pair) : SameFaults s (s.replan p) :=
  (s.planSweep_sameFaults true p).trans (State.arbitrate_sameFaults _)

theorem State.abortPass_sameFaults (s : State) (p : Pair) : SameFaults s (s.abortPass p) := by
  rcases s.abortPass_cases p with ⟨_, h⟩ | ⟨_, h⟩ <;> rw [h] <;> exact ⟨rfl, rfl⟩

theorem State.abandonSweep_sameFaults (s : State) (p : Pair) : SameFaults s (s.abandonSweep p) := by
  rcases s.abandonSweep_cases p with h | ⟨_, _, _, h⟩ <;> rw [h]
  · exact .refl s
  · exact (s.abortPass_sameFaults p).trans (.modPair _ p _)

theorem State.yieldSweep_sameFaults (s : State) (p : Pair) (m : YieldMode) : SameFaults s (s.yieldSweep p m) := by
  unfold State.yieldSweep State.abandonUnlessRunning
  split
  · exact s.abandonSweep_sameFaults p
  · split
    · exact .refl s
    · exact s.abandonSweep_sameFaults p

theorem State.abandonLearning_sameFaults (s : State) (p : Pair) (c : LearnCause) :
    SameFaults s (s.abandonLearning p c) := by
  rcases s.abandonLearning_cases p c with ⟨_, h⟩ | ⟨_, h⟩ <;> rw [h] <;> exact ⟨rfl, rfl⟩

theorem State.learningStage_sameFaults (s : State) (p : Pair) (ms : List WindowMeasurement) (number : BitVec 48)
    (stamp : LineTime) : SameFaults s (s.learningStage p ms number stamp) := by
  unfold State.learningStage State.countSweep
  split
  · exact .refl s
  · dsimp only
    split
    · split
      · exact (SameFaults.modPair s p _).trans (State.abandonLearning_sameFaults ..)
      · exact .modPair s p _
    · split <;> exact ⟨rfl, rfl⟩

theorem State.tableStage_sameFaults (s : State) (p : Pair) (js : List Judged) : SameFaults s (s.tableStage p js) :=
  ((SameFaults.modPair s p _).trans (State.setPairFlagIf_sameFaults ..)).trans (State.setPairFlagIf_sameFaults ..)

theorem State.tableEffect_sameFaults (s : State) (e : QueueEntry) : SameFaults s (s.tableEffect e) := by
  have unmuted : SameFaults s (s.unmuteRecord e.pair e.index) :=
    (SameFaults.modPair s e.pair _).trans (State.considerSweep_sameFaults ..)
  unfold State.tableEffect
  split
  · exact ⟨rfl, rfl⟩
  · exact unmuted
  · exact unmuted
  · exact .refl s

/-! ### Records of the list -/

/-- From one state to another the fault list stays sound, and of a sound list the action parts stay in agreement with their
records' states (R81, R82, R135). -/
structure FaultsKept (s t : State) : Prop where
  list : FaultListInv s → FaultListInv t
  actions : FaultListInv s → FaultActionInv s → FaultActionInv t

theorem FaultsKept.refl (s : State) : FaultsKept s s := ⟨id, fun _ => id⟩

theorem FaultsKept.trans {s t u : State} (h : FaultsKept s t) (h' : FaultsKept t u) : FaultsKept s u :=
  ⟨fun hl => h'.list (h.list hl), fun hl ha => h'.actions (h.list hl) (h.actions hl ha)⟩

/-- What an operation keeps may be shown of a sound list. -/
theorem FaultsKept.of_list {s t : State} (h : FaultListInv s → FaultsKept s t) : FaultsKept s t :=
  ⟨fun hl => (h hl).list hl, fun hl => (h hl).actions hl⟩

theorem SameFaults.kept {s t : State} (h : SameFaults s t) : FaultsKept s t where
  list hl := by
    obtain ⟨room, ids, distinct, next⟩ := hl
    exact ⟨by rwa [h.faults], by rwa [h.faults], by rwa [h.faults], by rwa [h.nextFaultId]⟩
  actions _ ha := by
    unfold FaultActionInv
    rwa [h.faults]

theorem FaultsKept.same {s t u : State} (h : FaultsKept s t) (h' : SameFaults t u) : FaultsKept s u := h.trans h'.kept

theorem FaultsKept.setPairFlag {s t : State} (h : FaultsKept s t) (p : Pair) (k : PairFlag) :
    FaultsKept s (t.setPairFlag p k) := h.same (t.setPairFlag_sameFaults p k)

theorem FaultsKept.foldl {α : Type} {f : State → α → State} (hf : ∀ s x, FaultsKept s (f s x)) (xs : List α)
    (s : State) : FaultsKept s (xs.foldl f s) := by
  induction xs generalizing s with
  | nil => exact .refl s
  | cons x xs ih => exact (hf s x).trans (ih _)

/-- Records changed in their places with their ids. -/
theorem FaultsKept.map {s : State} {f : FaultRecord → FaultRecord} (hid : ∀ r, (f r).id = r.id)
    (hfit : ∀ r ∈ s.faults, r.actionFits = true → (f r).actionFits = true) :
    FaultsKept s { s with faults := s.faults.map f } where
  list hl := by
    have ids : (s.faults.map f).map (·.id) = s.faults.map (·.id) := by simp [hid]
    refine ⟨by simpa using hl.room, fun r hr => ?_, ?_, hl.next⟩
    · obtain ⟨x, hx, rfl⟩ := List.mem_map.mp hr
      rw [hid]
      exact hl.ids x hx
    · show ((s.faults.map f).map (·.id)).Nodup
      rw [ids]
      exact hl.distinct
  actions _ ha r hr := by
    obtain ⟨x, hx, rfl⟩ := List.mem_map.mp hr
    exact hfit x hx (ha x hx)

/-- Records that leave the list. -/
theorem FaultsKept.sublist {s : State} {fs : List FaultRecord} (h : fs.Sublist s.faults) :
    FaultsKept s { s with faults := fs } where
  list hl := ⟨h.length_le.trans hl.room, fun r hr => hl.ids r (h.subset hr), hl.distinct.sublist (h.map _), hl.next⟩
  actions _ ha r hr := ha r (h.subset hr)

theorem dropFirst_sublist {α : Type} (fits : α → Bool) (xs : List α) : (dropFirst fits xs).Sublist xs := by
  induction xs with
  | nil => exact .slnil
  | cons x xs ih =>
    unfold dropFirst
    split
    · exact List.sublist_cons_self x xs
    · exact ih.cons_cons x

/-- The record of an id, changed: its own agreement is all there is to show. -/
theorem FaultsKept.modFault {s : State} {id : Nat} {f : FaultRecord → FaultRecord} (hid : ∀ r, (f r).id = r.id)
    (hfit : ∀ r ∈ s.faults, r.id = id → r.actionFits = true → (f r).actionFits = true) :
    FaultsKept s (s.modFault id f) := by
  refine .map (fun r => ?_) fun r hr hr' => ?_
  · split
    · exact hid r
    · rfl
  · split
    next named => exact hfit r hr named hr'
    · exact hr'

/-! ### Action parts (R135) -/

theorem FaultRecord.actionFits_iff {r : FaultRecord} {a : ActionPart} (h : r.action = some a) :
    r.actionFits = true ↔ (r.state = .acting ↔ a.result = .pending) ∧ (r.state = .acting ↔ a.step ≠ .done) := by
  unfold FaultRecord.actionFits
  simp only [h, Bool.and_eq_true, decide_eq_true_eq]

theorem FaultRecord.actionFits_of_none {r : FaultRecord} (h : r.action = none) :
    r.actionFits = true ↔ r.state ≠ .acting := by
  unfold FaultRecord.actionFits
  simp only [h, decide_eq_true_eq]

/-- A record whose sequence has ended, with a result that is not PENDING, agrees (R135). -/
theorem FaultRecord.actionFits_ended (r : FaultRecord) {x : ActionResult} {st : FaultState} (hx : x ≠ .pending)
    (hst : st ≠ .acting) :
    ({ r.modAction (fun a => { a with step := .done, result := x }) with state := st } : FaultRecord).actionFits
      = true := by
  unfold FaultRecord.modAction FaultRecord.actionFits
  cases r.action <;> simp [hx, hst]

/-- A change that leaves state, step and result alone keeps the agreement. -/
theorem FaultRecord.actionFits_modAction (r : FaultRecord) {f : ActionPart → ActionPart}
    (hstep : ∀ a, (f a).step = a.step) (hresult : ∀ a, (f a).result = a.result) (h : r.actionFits = true) :
    (r.modAction f).actionFits = true := by
  cases ha : r.action with
  | none =>
    have still : (r.modAction f).action = none := by simp [FaultRecord.modAction, ha]
    exact (FaultRecord.actionFits_of_none still).mpr ((FaultRecord.actionFits_of_none ha).mp h)
  | some a =>
    rw [FaultRecord.modAction_of_action ha, FaultRecord.actionFits_iff rfl, hstep, hresult]
    exact (FaultRecord.actionFits_iff ha).mp h

/-- An ACTING record may take any step but DONE. -/
theorem FaultRecord.actionFits_step {r : FaultRecord} {f : ActionPart → ActionPart} (hr : r.state = .acting)
    (hstep : ∀ a, (f a).step ≠ .done) (hresult : ∀ a, (f a).result = a.result) (h : r.actionFits = true) :
    (r.modAction f).actionFits = true := by
  unfold FaultRecord.modAction
  unfold FaultRecord.actionFits at h ⊢
  cases ha : r.action <;> simp_all

theorem CommandStep.step_ne_done (f : CommandStep) : f.step ≠ .done := by cases f <;> exact Step.noConfusion

/-! ### The sequences of the Isolation Controller (R137 to R149) -/

/-- Every record with an id is ACTING. -/
def State.ActingAt (s : State) (id : Nat) : Prop := ∀ x ∈ s.faults, x.id = id → x.state = .acting

/-- In a sound list an id names one record. -/
theorem State.actingAt_of_mem {s : State} (hl : FaultListInv s) {r : FaultRecord} (hr : r ∈ s.faults)
    (hs : r.state = .acting) : s.ActingAt r.id := by
  intro x hx hid
  rwa [List.inj_on_of_nodup_map hl.distinct hx hr hid]

theorem State.actingAt_of_faultAt {s : State} (hl : FaultListInv s) {id : Nat} {r : FaultRecord}
    (hr : s.faultAt id = some r) (hs : r.state = .acting) : s.ActingAt r.id :=
  State.actingAt_of_mem hl (List.mem_of_find?_eq_some hr) hs

theorem State.ActingAt.modFault {s : State} {id id' : Nat} {f : FaultRecord → FaultRecord} (h : s.ActingAt id)
    (hid : ∀ r, (f r).id = r.id) (hs : id = id' → ∀ r, r.state = .acting → (f r).state = .acting) :
    (s.modFault id' f).ActingAt id := by
  intro x hx hxid
  obtain ⟨r, hr, rfl⟩ := List.mem_map.mp hx
  split at hxid
  next named =>
    rw [if_pos named]
    rw [hid] at hxid
    exact hs (hxid.symm.trans named) r (h r hr hxid)
  next other =>
    rw [if_neg other]
    exact h r hr hxid

/-- An ACTING record takes another step. -/
theorem State.takeStep_keepsFaults {s : State} {r : FaultRecord} (h : FaultListInv s → s.ActingAt r.id)
    {f : ActionPart → ActionPart} (hstep : ∀ a, (f a).step ≠ .done) (hresult : ∀ a, (f a).result = a.result) :
    FaultsKept s (s.modFault r.id (·.modAction f)) :=
  .of_list fun hl => .modFault (fun _ => rfl) fun x hx hid => FaultRecord.actionFits_step (h hl x hx hid) hstep hresult

theorem State.enqueueStep_keepsFaults {s : State} {r : FaultRecord} (h : FaultListInv s → s.ActingAt r.id) (c : Command)
    (n : Nat) (f : CommandStep) : FaultsKept s (s.enqueueStep r c n f) := by
  rcases s.enqueueStep_cases r c n f with ⟨_, e⟩ | ⟨_, e⟩ <;> rw [e]
  · refine .trans (s.withQueue_sameFaults _).kept (State.takeStep_keepsFaults (fun hl => ?_) ?_ ?_)
    · exact h ⟨hl.room, hl.ids, hl.distinct, hl.next⟩
    · exact fun _ => f.step_ne_done
    · exact fun _ => rfl
  · exact State.takeStep_keepsFaults h (fun _ => Step.noConfusion) fun _ => rfl

theorem State.endSequence_keepsFaults (s : State) (r : FaultRecord) {x : ActionResult} {st : FaultState}
    (hx : x ≠ .pending) (hst : st ≠ .acting) : FaultsKept s (s.endSequence r x st) := by
  unfold State.endSequence
  refine .setPairFlag ?_ _ _
  exact .modFault (fun _ => rfl) fun r _ _ _ => r.actionFits_ended hx hst

theorem State.startSequence_keepsFaults (s : State) (r : FaultRecord) (a : Action) (o : ActionOrigin) (w : Option Half) :
    FaultsKept s (s.startSequence r a o w) := by
  have started : FaultsKept s (s.becomeActing r a o w) := by
    unfold State.becomeActing
    refine .setPairFlag ?_ _ _
    refine .modFault (fun _ => rfl) fun x _ _ _ => ?_
    exact (FaultRecord.actionFits_iff rfl).mpr ⟨by simp, by simp [CommandStep.step_ne_done]⟩
  refine started.trans (State.enqueueStep_keepsFaults (fun _ x hx hid => ?_) _ _ _)
  obtain ⟨y, _, rfl⟩ := List.mem_map.mp hx
  dsimp only at hid ⊢
  split at hid
  next named => rw [if_pos named]
  next other => exact absurd hid other

theorem State.queryDone_keepsFaults {s : State} {r : FaultRecord} (h : FaultListInv s → s.ActingAt r.id) (a : ActionPart)
    (reply : List Byte) : FaultsKept s (s.queryDone r a reply) := by
  have stored : FaultsKept s (s.storeStatus r (statusOf reply)) :=
    .modFault (fun _ => rfl) fun x _ _ => x.actionFits_modAction (fun _ => rfl) fun _ => rfl
  refine .of_list fun hl => ?_
  have acting : (s.storeStatus r (statusOf reply)).ActingAt r.id := (h hl).modFault (fun _ => rfl) fun _ _ hx => hx
  unfold State.queryDone
  dsimp only
  split
  · split
    · exact stored.trans (State.enqueueStep_keepsFaults (fun _ => acting) _ _ _)
    · exact stored.trans (State.endSequence_keepsFaults _ _ ActionResult.noConfusion FaultState.noConfusion)
  · exact stored.trans (State.endSequence_keepsFaults _ _ ActionResult.noConfusion FaultState.noConfusion)

theorem State.commandDone_keepsFaults {s : State} {r : FaultRecord} (h : FaultListInv s → s.ActingAt r.id)
    (a : ActionPart) : FaultsKept s (s.commandDone r a) := by
  unfold State.commandDone
  split
  · exact s.endSequence_keepsFaults r ActionResult.noConfusion FaultState.noConfusion
  · exact State.takeStep_keepsFaults h (fun _ => Step.noConfusion) fun _ => rfl

theorem State.deliver_keepsFaults (s : State) (id : Nat) (x : ExchangeResult) (reply : List Byte) :
    FaultsKept s (s.deliver id x reply) := by
  unfold State.deliver
  split
  · exact .refl s
  next r hr =>
    split
    next a hs ha =>
      have acting (hl : FaultListInv s) : s.ActingAt r.id := State.actingAt_of_faultAt hl hr hs
      split
      · exact State.queryDone_keepsFaults acting a reply
      · exact State.commandDone_keepsFaults acting a
      · exact s.endSequence_keepsFaults r ActionResult.noConfusion FaultState.noConfusion
      · exact s.endSequence_keepsFaults r ActionResult.noConfusion FaultState.noConfusion
      · exact .refl s
    · exact .refl s

/-- The loss of a role ends sequences with ROLE LOST (R147, R149). -/
theorem State.loseRole_keepsFaults (s : State) (p : Pair) : FaultsKept s (s.loseRole p) := by
  have steps : FaultsKept s (s.endWaitingSteps p) :=
    .foldl (fun s r => s.endSequence_keepsFaults r ActionResult.noConfusion FaultState.noConfusion) _ s
  have delivered (t : State) (ids : List Nat) : FaultsKept t (ids.foldl (fun s id => s.deliver id .roleLost []) t) :=
    .foldl (fun s id => s.deliver_keepsFaults id .roleLost []) ids t
  exact (steps.same (State.withQueue_sameFaults _ _)).trans (delivered _ _)

theorem State.settle_keepsFaults (s : State) (e : QueueEntry) (x : ExchangeResult) (reply : List Byte) :
    FaultsKept s (s.settle e x reply) := by
  unfold State.settle
  split
  · exact (s.modFlight_sameFaults _).kept
  · exact (s.withQueue_sameFaults _).kept.trans (State.deliver_keepsFaults _ _ x reply)

/-! ### The three passes of stage 4 (R137, R141, R146) -/

theorem State.verify_keepsFaults {s : State} {r : FaultRecord} (h : FaultListInv s → s.ActingAt r.id) (a : ActionPart)
    (passOver : Bool) (o : EchoOutcome) : FaultsKept s (s.verify r a passOver o) := by
  unfold State.verify
  split
  · exact State.takeStep_keepsFaults h (fun _ => Step.noConfusion) fun _ => rfl
  · split
    · exact .refl s
    · have counted : FaultsKept s (s.modFault r.id (·.modAction fun a => { a with verified := a.countVerified })) := by
        refine .modFault (fun _ => rfl) fun x _ _ hx => ?_
        exact x.actionFits_modAction (fun _ => rfl) (fun _ => rfl) hx
      dsimp only
      split
      · exact counted.trans (State.endSequence_keepsFaults _ _ ActionResult.noConfusion FaultState.noConfusion)
      · exact counted
    · exact s.endSequence_keepsFaults r ActionResult.noConfusion FaultState.noConfusion

theorem State.verifyPass_keepsFaults {s : State} {r : FaultRecord} (h : r.state = .acting → s.ActingAt r.id)
    (ks : List Known) : FaultsKept s (State.verifyPass ks s r) := by
  unfold State.verifyPass
  split
  next hs _ =>
    split
    · exact State.verify_keepsFaults (fun _ => h hs) _ _ _
    · exact .refl s
  · exact .refl s

theorem State.waitingPass_keepsFaults {s : State} {r : FaultRecord} (h : r.state = .acting → s.ActingAt r.id) :
    FaultsKept s (s.waitingPass r) := by
  unfold State.waitingPass
  split
  next hs _ =>
    split
    · exact State.enqueueStep_keepsFaults (fun _ => h hs) _ _ _
    · exact .refl s
  · exact .refl s

/-- Neither pass over a record touches a record with another id. -/
theorem State.ActingAt.verifyPass {s : State} {id : Nat} (h : s.ActingAt id) {r : FaultRecord} (hid : id ≠ r.id)
    (ks : List Known) : (State.verifyPass ks s r).ActingAt id := by
  have other {t : State} (ht : t.ActingAt id) {f : ActionPart → ActionPart} :
      (t.modFault r.id (·.modAction f)).ActingAt id := ht.modFault (fun _ => rfl) fun e => absurd e hid
  have ended {t : State} (ht : t.ActingAt id) {x : ActionResult} {st : FaultState} : (t.endSequence r x st).ActingAt id :=
    State.ActingAt.modFault ht (fun _ => rfl) fun e => absurd e hid
  unfold State.verifyPass
  split
  · split
    · unfold State.verify
      split
      · exact other h
      · split
        · exact h
        · dsimp only
          split
          · exact ended (other h)
          · exact other h
        · exact ended h
    · exact h
  · exact h

theorem State.ActingAt.waitingPass {s : State} {id : Nat} (h : s.ActingAt id) {r : FaultRecord} (hid : id ≠ r.id) :
    (s.waitingPass r).ActingAt id := by
  unfold State.waitingPass
  split
  · split
    next c n f _ =>
      rcases s.enqueueStep_cases r c n f with ⟨_, e⟩ | ⟨_, e⟩ <;> rw [e] <;>
        exact State.ActingAt.modFault h (fun _ => rfl) fun e => absurd e hid
    · exact h
  · exact h

/-- A pass over records with distinct ids meets each as the pass has found it. -/
theorem FaultsKept.pass {f : State → FaultRecord → State}
    (hf : ∀ {s r}, (r.state = .acting → s.ActingAt r.id) → FaultsKept s (f s r))
    (others : ∀ {s r id}, id ≠ r.id → s.ActingAt id → (f s r).ActingAt id) {rs : List FaultRecord}
    (hd : (rs.map (·.id)).Nodup) {s : State} (h : ∀ r ∈ rs, r.state = .acting → s.ActingAt r.id) :
    FaultsKept s (rs.foldl f s) := by
  induction rs generalizing s with
  | nil => exact .refl s
  | cons r rs ih =>
    rw [List.map_cons, List.nodup_cons] at hd
    obtain ⟨fresh, distinct⟩ := hd
    refine (hf (h r (by simp))).trans (ih distinct fun x hx hs => others (fun e => ?_) (h x (by simp [hx]) hs))
    exact fresh (List.mem_map.mpr ⟨x, hx, e⟩)

/-- A pass over the records of a pair. -/
theorem State.passOver_keepsFaults (s : State) (p : Pair) {f : State → FaultRecord → State}
    (hf : ∀ {s r}, (r.state = .acting → s.ActingAt r.id) → FaultsKept s (f s r))
    (others : ∀ {s r id}, id ≠ r.id → s.ActingAt id → (f s r).ActingAt id) :
    FaultsKept s ((s.faultsOf p).foldl f s) := by
  refine .of_list fun hl => .pass hf others ?_ fun r hr hs => ?_
  · exact hl.distinct.sublist (List.filter_sublist.map _)
  · exact State.actingAt_of_mem hl (List.mem_of_mem_filter hr) hs

theorem State.autoStart_keepsFaults (s : State) (id : Nat) : FaultsKept s (s.autoStart id) := by
  unfold State.autoStart
  split
  · exact .refl s
  · dsimp only
    split
    · exact s.startSequence_keepsFaults ..
    · exact .refl s

theorem State.isolationStage_keepsFaults (s : State) (p : Pair) (ks : List Known) (named : List Nat) :
    FaultsKept s (s.isolationStage p ks named) := by
  have verified : FaultsKept s ((s.faultsOf p).foldl (State.verifyPass ks) s) :=
    s.passOver_keepsFaults p (fun h => State.verifyPass_keepsFaults h ks) fun hid h => h.verifyPass hid ks
  have waited (t : State) : FaultsKept t ((t.faultsOf p).foldl State.waitingPass t) :=
    t.passOver_keepsFaults p (fun h => State.waitingPass_keepsFaults h) fun hid h => h.waitingPass hid
  have started (t : State) : FaultsKept t (named.foldl State.autoStart t) :=
    .foldl (fun s id => s.autoStart_keepsFaults id) named t
  exact ((verified.trans (waited _)).trans (started _)).same (State.startNext_sameFaults _)

end Sys2Proof.Machine
end

section
/-! The fault list under the Fault Localizer (R82, R83, R87 to R96): the ids in their order from the next one on, and what
each operation on the list keeps. -/

namespace Sys2Proof.Machine

/-! ### Fault ids (R82) -/

/-- The id that comes after `n` others, counting from `start` up through 1..65535 and wrapping. -/
def idFrom (start n : Nat) : Nat := (start - 1 + n) % 65535 + 1

theorem idFrom_range (start n : Nat) : 1 ≤ idFrom start n ∧ idFrom start n ≤ 65535 := by
  unfold idFrom
  omega

theorem idFrom_zero {start : Nat} (h : 1 ≤ start ∧ start ≤ 65535) : idFrom start 0 = start := by
  unfold idFrom
  omega

theorem idAfter_eq {id : Nat} (h : 1 ≤ id ∧ id ≤ 65535) : idAfter id = id % 65535 + 1 := by
  unfold idAfter
  split <;> omega

theorem idAfter_idFrom (start n : Nat) : idAfter (idFrom start n) = idFrom start (n + 1) := by
  rw [idAfter_eq (idFrom_range start n)]
  unfold idFrom
  omega

/-- No id comes twice in a full round. -/
theorem idFrom_inj {start i j : Nat} (hi : i < 65535) (hj : j < 65535) (h : idFrom start i = idFrom start j) : i = j := by
  unfold idFrom at h
  omega

/-- The search tries one id after the other while each is held, and stops at a free one or with its tries used up. -/
theorem freeId_search (rs : List FaultRecord) (start fuel k : Nat) :
    ∃ n ≤ fuel, freeId rs fuel (idFrom start k) = idFrom start (k + n)
      ∧ (∀ j < n, ∃ x ∈ rs, x.id = idFrom start (k + j)) ∧ (n < fuel → ∀ x ∈ rs, x.id ≠ idFrom start (k + n)) := by
  induction fuel generalizing k with
  | zero => exact ⟨0, le_rfl, rfl, fun _ h => absurd h (Nat.not_lt_zero _), fun h => absurd h (Nat.not_lt_zero _)⟩
  | succ fuel ih =>
    by_cases held : (rs.any fun r => r.id == idFrom start k) = true
    · obtain ⟨n, hn, found, before, free⟩ := ih (k + 1)
      have shift (j : Nat) : k + 1 + j = k + (j + 1) := by omega
      refine ⟨n + 1, Nat.succ_le_succ hn, ?_, fun j hj => ?_, fun h => ?_⟩
      · rw [freeId, if_pos held, idAfter_idFrom, found, shift]
      · cases j with
        | zero => simpa using held
        | succ j => simpa [shift] using before j (Nat.lt_of_succ_lt_succ hj)
      · simpa [shift] using free (Nat.lt_of_succ_lt_succ h)
    · refine ⟨0, Nat.zero_le _, ?_, fun _ h => absurd h (Nat.not_lt_zero _), fun _ x hx e => held ?_⟩
      · rw [freeId, if_neg held, Nat.add_zero]
      · exact List.any_eq_true.mpr ⟨x, hx, beq_iff_eq.mpr e⟩

/-- As many ids in a row as are held need as many records. -/
theorem length_of_held {rs : List FaultRecord} {start n : Nat} (hn : n ≤ 65535)
    (h : ∀ j < n, ∃ x ∈ rs, x.id = idFrom start j) : n ≤ rs.length := by
  have distinct : ((List.range n).map (idFrom start)).Nodup := by
    refine List.Nodup.map_on (fun i hi j hj e => ?_) List.nodup_range
    rw [List.mem_range] at hi hj
    exact idFrom_inj (by omega) (by omega) e
  have held : (List.range n).map (idFrom start) ⊆ rs.map (·.id) := by
    intro id hid
    obtain ⟨j, hj, rfl⟩ := List.mem_map.mp hid
    obtain ⟨x, hx, e⟩ := h j (List.mem_range.mp hj)
    exact List.mem_map.mpr ⟨x, hx, e⟩
  simpa using (distinct.subperm held).length_le

/-- A list of at most 32 records leaves one of 33 ids in a row free: the search finds the first (R82). -/
theorem freeId_first {rs : List FaultRecord} {start : Nat} (hs : 1 ≤ start ∧ start ≤ 65535) (hr : rs.length ≤ 32) :
    FirstFreeFrom rs start (freeId rs (Config.maxFaults + 1) start) := by
  obtain ⟨n, hn, found, before, free⟩ := freeId_search rs start (Config.maxFaults + 1) 0
  simp only [Nat.zero_add, idFrom_zero hs] at found before free
  have tries : Config.maxFaults + 1 = 33 := rfl
  have below : n < 33 := by
    have := length_of_held (by omega) before
    omega
  rw [found]
  exact ⟨n, by omega, rfl, free (by omega), before⟩

theorem FirstFreeFrom.range {rs : List FaultRecord} {start id : Nat} (h : FirstFreeFrom rs start id) :
    1 ≤ id ∧ id ≤ 65535 := by
  obtain ⟨n, _, rfl, _⟩ := h
  exact idFrom_range start n

/-! ### Candidates (R87 to R91) -/

/-- A record that is opened joins the newest end with the first free id, and the next id follows it (R82, R89). -/
theorem State.openFault_list {s : State} (hn : 1 ≤ s.nextFaultId ∧ s.nextFaultId ≤ 65535) (hr : s.faults.length ≤ 32)
    (p : Pair) (c : Candidate) (number : BitVec 48) (stamp : LineTime) :
    ∃ id, FirstFreeFrom s.faults s.nextFaultId id
      ∧ (s.openFault p c number stamp).faults = s.faults ++ [newFault id p c number stamp]
      ∧ (s.openFault p c number stamp).nextFaultId = id % 65535 + 1 := by
  have first := freeId_first hn hr
  exact ⟨_, first, rfl, idAfter_eq first.range⟩

theorem State.openFault_keepsFaults {s : State} (h : FaultListInv s → s.faults.length < 32) (p : Pair) (c : Candidate)
    (number : BitVec 48) (stamp : LineTime) : FaultsKept s (s.openFault p c number stamp) := by
  refine .of_list fun hl => ?_
  obtain ⟨id, first, faults, next⟩ := State.openFault_list hl.next hl.room p c number stamp
  have range := first.range
  obtain ⟨_, _, _, fresh, _⟩ := first
  refine ⟨fun _ => ⟨?_, fun r hr => ?_, ?_, ?_⟩, fun _ ha r hr => ?_⟩
  · rw [faults, List.length_append]
    exact h hl
  · rw [faults, List.mem_append, List.mem_singleton] at hr
    rcases hr with hr | rfl
    · exact hl.ids r hr
    · exact range
  · rw [faults, List.map_append, List.nodup_append]
    refine ⟨hl.distinct, List.nodup_singleton _, fun x hx y hy => ?_⟩
    obtain ⟨r, hr, rfl⟩ := List.mem_map.mp hx
    rw [List.map_singleton, List.mem_singleton] at hy
    rw [hy]
    exact fresh r hr
  · rw [next]
    omega
  · rw [faults, List.mem_append, List.mem_singleton] at hr
    rcases hr with hr | rfl
    · exact ha r hr
    · rfl

/-- The oldest CLEARED record makes room for one record (R90). -/
theorem length_dropFirst_of_find {α : Type} {fits : α → Bool} {xs : List α} {x : α} (h : xs.find? fits = some x) :
    (dropFirst fits xs).length + 1 = xs.length := by
  obtain ⟨hx, before, after, rfl, hb⟩ := List.find?_eq_some_iff_append.mp h
  rw [dropFirst_of_split after (fun y hy => by simpa using hb y hy) hx]
  simp
  omega

theorem State.openOrDrop_keepsFaults (s : State) (p : Pair) (c : Candidate) (number : BitVec 48) (stamp : LineTime) :
    FaultsKept s (s.openOrDrop p c number stamp) := by
  unfold State.openOrDrop
  split
  next room => exact State.openFault_keepsFaults (fun _ => room) ..
  · split
    next r hr =>
      refine .of_list fun hl => ?_
      have evicted : FaultsKept s (s.evictCleared r) := .setPairFlag (.sublist (dropFirst_sublist _ _)) _ _
      refine evicted.trans (State.openFault_keepsFaults (fun _ => ?_) ..)
      have shorter := length_dropFirst_of_find hr
      have room := hl.room
      show (dropFirst _ s.faults).length < 32
      omega
    · exact (s.setPairFlag_sameFaults ..).kept

/-- An update that leaves state and action part alone keeps the agreement. -/
theorem FaultRecord.actionFits_congr {r r' : FaultRecord} (hs : r'.state = r.state) (ha : r'.action = r.action) :
    r'.actionFits = r.actionFits := by
  unfold FaultRecord.actionFits
  rw [hs, ha]

/-- The first record that fits, changed as every record with its id would be. -/
theorem modFirst_eq_map_of_find {rs : List FaultRecord} (hd : (rs.map (·.id)).Nodup) {fits : FaultRecord → Bool}
    {r : FaultRecord} (hr : rs.find? fits = some r) (f : FaultRecord → FaultRecord) :
    modFirst fits f rs = rs.map fun x => if x.id = r.id then f x else x := by
  obtain ⟨hx, before, after, rfl, hb⟩ := List.find?_eq_some_iff_append.mp hr
  rw [modFirst_of_split f after (fun y hy => by simpa using hb y hy) hx]
  rw [List.map_append, List.map_cons, List.nodup_append, List.nodup_cons] at hd
  obtain ⟨_, ⟨fresh, _⟩, apart⟩ := hd
  have others (xs : List FaultRecord) (h : ∀ x ∈ xs, x.id ≠ r.id) :
      (xs.map fun x => if x.id = r.id then f x else x) = xs :=
    (List.map_congr_left (g := id) fun x hx => if_neg (h x hx)).trans (List.map_id xs)
  rw [List.map_append, List.map_cons, if_pos rfl,
    others before fun x hx => apart _ (List.mem_map_of_mem hx) _ List.mem_cons_self,
    others after fun x hx e => fresh (e ▸ List.mem_map_of_mem hx)]

theorem State.matchCandidate_keepsFaults (p : Pair) (number : BitVec 48) (stamp : LineTime) (s : State) (c : Candidate) :
    FaultsKept s (State.matchCandidate p number stamp s c) := by
  unfold State.matchCandidate
  split
  next r hr =>
    refine .of_list fun hl => ?_
    have sighted : FaultsKept s (s.modFault r.id (·.sight c)) :=
      .modFault (fun _ => rfl) fun x _ _ hx => (FaultRecord.actionFits_congr rfl rfl).trans hx
    rw [modFirst_eq_map_of_find hl.distinct hr]
    exact sighted.same (State.setPairFlagIf_sameFaults ..)
  · exact s.openOrDrop_keepsFaults ..

/-! ### Masks and judgements (R92 to R96) -/

theorem State.maskFaults_keepsFaults (s : State) (p : Pair) : FaultsKept s (s.maskFaults p) := by
  have id (r : FaultRecord) : (FaultRecord.mask s.faults p r).id = r.id := by
    unfold FaultRecord.mask
    split <;> rfl
  have fits (r : FaultRecord) : (FaultRecord.mask s.faults p r).actionFits = r.actionFits := by
    unfold FaultRecord.mask
    split <;> exact FaultRecord.actionFits_congr rfl rfl
  exact FaultsKept.same (.map id fun r _ hr => (fits r).trans hr) (State.setPairFlagIf_sameFaults ..)

theorem FaultRecord.judgeSighted_id (r : FaultRecord) (c : PairConfig) (history : List EchoOutcome) (stamp : LineTime) :
    (r.judgeSighted c history stamp).id = r.id := by
  unfold FaultRecord.judgeSighted
  dsimp only
  split
  · split <;> rfl
  · rfl
  · rfl

theorem FaultRecord.judgeUnsighted_id (r : FaultRecord) (c : PairConfig) (stamp : LineTime) :
    (r.judgeUnsighted c stamp).id = r.id := by
  unfold FaultRecord.judgeUnsighted
  split
  any_goals split
  all_goals rfl

theorem FaultRecord.judge_id (q : PairState) (p : Pair) (cs : List Candidate) (stamp : LineTime) (r : FaultRecord) :
    (r.judge q p cs stamp).id = r.id := by
  unfold FaultRecord.judge
  split
  · split
    · exact r.judgeSighted_id ..
    · exact r.judgeUnsighted_id ..
  · rfl

/-- A change of state outside ACTING keeps the agreement (R135). -/
theorem FaultRecord.actionFits_outside {r r' : FaultRecord} (h : r.actionFits = true) (hr : r.state ≠ .acting)
    (hr' : r'.state ≠ .acting) (ha : r'.action = r.action) : r'.actionFits = true := by
  unfold FaultRecord.actionFits at h ⊢
  rw [ha]
  simpa [hr, hr'] using h

/-- No judgement of a candidate touches a sequence that runs; an ISOLATED record that relapses has ended its own (R96). -/
theorem FaultRecord.judgeSighted_fits {r : FaultRecord} (h : r.actionFits = true) (c : PairConfig)
    (history : List EchoOutcome) (stamp : LineTime) : (r.judgeSighted c history stamp).actionFits = true := by
  have kept : ({ r with absence := 0 } : FaultRecord).actionFits = true := h
  unfold FaultRecord.judgeSighted
  dsimp only
  split
  next hs =>
    split
    · exact FaultRecord.actionFits_outside h (by simp [hs]) FaultState.noConfusion rfl
    · exact kept
  next hs =>
    unfold FaultRecord.actionFits ActionPart.withResult at *
    cases ha : r.action <;> simp_all
  · exact kept

theorem FaultRecord.judgeUnsighted_fits {r : FaultRecord} (h : r.actionFits = true) (c : PairConfig) (stamp : LineTime) :
    (r.judgeUnsighted c stamp).actionFits = true := by
  unfold FaultRecord.judgeUnsighted
  split
  case h_4 => exact h
  all_goals
    split
    · exact FaultRecord.actionFits_outside h (by simp [*]) FaultState.noConfusion rfl
    · exact h

theorem State.judgeFaults_keepsFaults (s : State) (p : Pair) (cs : List Candidate) (stamp : LineTime) :
    FaultsKept s (s.judgeFaults p cs stamp) := by
  have fits (r : FaultRecord) (hr : r.actionFits = true) :
      (FaultRecord.judge (s.pair p) p cs stamp r).actionFits = true := by
    unfold FaultRecord.judge
    split
    · split
      · exact FaultRecord.judgeSighted_fits hr ..
      · exact FaultRecord.judgeUnsighted_fits hr ..
    · exact hr
  exact FaultsKept.same (.map (FaultRecord.judge_id _ p cs stamp) fun r _ hr => fits r hr)
    (State.setPairFlagIf_sameFaults ..)

theorem State.localize_keepsFaults (s : State) (p : Pair) (ks : List Known) (number : BitVec 48) (stamp : LineTime) :
    FaultsKept s (s.localize p ks number stamp).1 :=
  (((FaultsKept.foldl (State.matchCandidate_keepsFaults p number stamp) _ s).trans
    (State.maskFaults_keepsFaults _ p)).trans (State.judgeFaults_keepsFaults ..)).trans (State.maskFaults_keepsFaults ..)

end Sys2Proof.Machine
end

section
/-! Every step keeps the fault list sound and its action parts in agreement: the completions and roles, the events, the
requests and the clock in turn (R81, R82, R135). -/

namespace Sys2Proof.Machine

/-! ### Completions, yields and modes (R15, R16, R74, R161, R162) -/

section
variable (s : State)

theorem State.judgeStages_keepsFaults (p : Pair) (ks : List Known) (number : BitVec 48) (stamp : LineTime) :
    FaultsKept s (s.judgeStages p ks number stamp) := by
  unfold State.judgeStages
  split
  · exact s.isolationStage_keepsFaults ..
  · exact (s.localize_keepsFaults ..).trans (State.isolationStage_keepsFaults ..)

theorem State.stages_keepsFaults (p : Pair) (w : Sweep) (stamp : LineTime) : FaultsKept s (s.stages p w stamp) := by
  have published (t : State) (b : PublishedSweep) : SameFaults t ((t.publish p b).releaseHold p) := ⟨rfl, rfl⟩
  have learned (js : List Judged) (n : BitVec 48) : SameFaults s ((s.tableStage p js).learningStage p w.held n stamp) :=
    (s.tableStage_sameFaults p js).trans (State.learningStage_sameFaults ..)
  exact ((learned _ _).kept.trans (State.judgeStages_keepsFaults ..)).same (published _ _)

theorem State.setGuard_keepsFaults (p : Pair) (m : YieldMode) (pass exchange : Bool) :
    FaultsKept s (s.setGuard p m pass exchange) := by
  have silent : SameFaults s ((s.setRole p .listen .roleYielded).modPair p PairState.silence) := ⟨rfl, rfl⟩
  rcases s.setGuard_cases p m pass exchange with ⟨_, h⟩ | ⟨_, _, h⟩ <;> rw [h]
  · exact (SameFaults.modPair s p _).kept
  · exact silent.kept.trans (State.loseRole_keepsFaults _ p)

theorem State.reportLeftBank_keepsFaults (p : Pair) : FaultsKept s (s.reportLeftBank p) := by
  unfold State.reportLeftBank
  split
  · exact s.setGuard_keepsFaults ..
  · exact .refl s

theorem State.reportExchangeEnd_keepsFaults (p : Pair) : FaultsKept s (s.reportExchangeEnd p) := by
  unfold State.reportExchangeEnd
  split
  · exact s.setGuard_keepsFaults ..
  · exact .refl s

theorem State.finishSweep_keepsFaults (p : Pair) : FaultsKept s (s.finishSweep p) := by
  unfold State.finishSweep
  split
  · split
    · exact ((s.stages_keepsFaults p _ _).same (.modPair _ p _)).trans (State.reportLeftBank_keepsFaults ..)
    · exact .refl s
  · exact .refl s

theorem State.takeCompletion_keepsFaults (p : Pair) : FaultsKept s (s.takeCompletion p) := by
  unfold State.takeCompletion
  split
  · exact (s.finishSweep_keepsFaults p).same (State.transmit_sameFaults _)
  · exact .refl s

theorem State.completeSweep_keepsFaults (p : Pair) : FaultsKept s (s.completeSweep p) := by
  unfold State.completeSweep
  split
  · exact (s.finishSweep_keepsFaults p).same (State.replan_sameFaults ..)
  · exact .refl s

theorem State.enterYielding_keepsFaults (p : Pair) (m : YieldMode) (c : RoleCause) :
    FaultsKept s (s.enterYielding p m c) := by
  have begun : SameFaults s (s.yieldBegun p m c) :=
    ((s.setRole_sameFaults p _ c).trans (State.yieldSweep_sameFaults ..)).trans (State.abandonLearning_sameFaults ..)
  rw [State.enterYielding_eq]
  exact (begun.kept.trans (State.setGuard_keepsFaults ..)).same (State.arbitrate_sameFaults _)

theorem State.leaveMode_keepsFaults (p : Pair) : FaultsKept s (s.leaveMode p) := by
  have ended : SameFaults s ((s.abandonSweep p).abandonLearning p .role) :=
    (s.abandonSweep_sameFaults p).trans (State.abandonLearning_sameFaults ..)
  exact ((ended.kept.trans (State.loseRole_keepsFaults _ p)).same (.modPair _ p _)).same (State.arbitrate_sameFaults _)

theorem State.park_keepsFaults (p : Pair) : FaultsKept s (s.park p) := by
  have silent : SameFaults s ((s.setRole p .parked .host).modPair p PairState.silence) := ⟨rfl, rfl⟩
  have stopped (t : State) : SameFaults t (t.modPair p fun q => { q with clock := .origin, det := .reset }) := ⟨rfl, rfl⟩
  exact (silent.kept.trans (State.leaveMode_keepsFaults _ p)).same (stopped _)

theorem State.enterSynthetic_sameFaults (p : Pair) : SameFaults s (s.enterSynthetic p) :=
  ((s.setRole_sameFaults p .synthetic .host).trans (.modPair _ p _)).trans (State.considerSweep_sameFaults ..)

/-! ### Exchanges (R119 to R130) -/

theorem State.endExchange_keepsFaults (e : QueueEntry) (x : ExchangeResult) (reply : List Byte) :
    FaultsKept s (s.endExchange e x reply) := by
  have settled := (s.settle_keepsFaults e x reply).trans (State.reportExchangeEnd_keepsFaults _ e.pair)
  unfold State.endExchange
  dsimp only
  split
  · exact (settled.same (State.tableEffect_sameFaults _ e)).same (State.startNext_sameFaults _)
  · exact settled.same (State.startNext_sameFaults _)

theorem State.endAttempt_keepsFaults (e : QueueEntry) (x : ExchangeResult) (reply : List Byte) :
    FaultsKept s (s.endAttempt e x reply) := by
  unfold State.endAttempt
  split
  · exact ((s.modFlight_sameFaults _).trans (State.askTone_sameFaults ..)).kept
  · exact s.endExchange_keepsFaults ..

theorem State.midpoint_sameFaults (readback : Tone) : SameFaults s (s.midpoint readback) := by
  unfold State.midpoint
  split
  · split <;> exact ⟨rfl, rfl⟩
  · exact .refl s

theorem State.frameEnd_keepsFaults : FaultsKept s s.frameEnd := by
  unfold State.frameEnd
  split
  · split
    · dsimp only
      split
      · exact (s.releaseTone_sameFaults _).kept.trans (State.endExchange_keepsFaults ..)
      · exact ((s.releaseTone_sameFaults _).trans (State.modFlight_sameFaults ..)).kept
    · exact .refl s
  · exact .refl s

theorem State.driveStop_keepsFaults : FaultsKept s s.driveStop := by
  unfold State.driveStop
  split
  · split
    · split
      · exact ((s.releaseTone_sameFaults _).trans (State.setPairFlag_sameFaults ..)).kept.trans
          (State.endExchange_keepsFaults ..)
      · exact .refl s
    · exact .refl s
  · exact .refl s

theorem State.receptionStart_sameFaults : SameFaults s s.receptionStart := by
  unfold State.receptionStart
  split
  · split
    · split <;> exact ⟨rfl, rfl⟩
    · exact .refl s
  · exact .refl s

theorem State.replyBit_keepsFaults : FaultsKept s s.replyBit := by
  unfold State.replyBit
  split
  · split
    · split
      · unfold State.judgeBits
        split
        · exact s.endAttempt_keepsFaults ..
        · split
          · exact s.endAttempt_keepsFaults ..
          · exact (s.modFlight_sameFaults _).kept
      · exact .refl s
    · exact .refl s
  · exact .refl s

theorem State.cutExchange_keepsFaults (p : Pair) : FaultsKept s (s.cutExchange p) := by
  unfold State.cutExchange
  split
  · split
    · exact (SameFaults.modPair s p _).kept.trans (State.endExchange_keepsFaults ..)
    · exact .refl s
  · exact .refl s

/-! ### Roles (R152 to R164) -/

theorem State.endClaim_sameFaults (p : Pair) (c : RoleCause) : SameFaults s (s.endClaim p c) := ⟨rfl, rfl⟩

theorem State.claimBurstEnd_sameFaults (p : Pair) : SameFaults s (s.claimBurstEnd p) := by
  unfold State.claimBurstEnd
  split
  · exact (s.releaseTone_sameFaults p).trans (.modPair _ p _)
  · exact .refl s

theorem State.keepBurstEnd_sameFaults (p : Pair) : SameFaults s (s.keepBurstEnd p) := by
  unfold State.keepBurstEnd
  split
  · exact s.releaseTone_sameFaults p
  · exact .refl s

theorem State.claimWon_sameFaults (p : Pair) : SameFaults s (s.claimWon p) := by
  unfold State.claimWon
  split
  · exact ((s.setRole_sameFaults p _ _).trans (State.considerSweep_sameFaults ..)).trans (State.startNext_sameFaults _)
  · exact .refl s

theorem State.claimTimeout_sameFaults (p : Pair) : SameFaults s (s.claimTimeout p) := by
  unfold State.claimTimeout
  split
  · exact s.endClaim_sameFaults ..
  · exact .refl s

theorem State.collide_keepsFaults (p : Pair) : FaultsKept s (s.collide p) := by
  unfold State.collide
  split
  · split
    · exact ((s.takeCompletion_keepsFaults p).setPairFlag p _).trans (State.enterYielding_keepsFaults ..)
    · exact SameFaults.kept ⟨rfl, rfl⟩
  · exact .refl s

theorem State.farKeep_sameFaults (p : Pair) : SameFaults s (s.farKeep p) := by
  unfold State.farKeep
  split
  · exact s.endClaim_sameFaults ..
  · exact .refl s

theorem State.farClaim_keepsFaults (p : Pair) : FaultsKept s (s.farClaim p) := by
  unfold State.farClaim
  split
  · split
    · exact (s.endClaim_sameFaults ..).kept
    · exact (SameFaults.modPair s p _).kept
  · split
    · exact (SameFaults.modPair s p _).kept
    · exact s.enterYielding_keepsFaults ..
  · exact .refl s

/-! ### Samples, detectors and passes (R15 to R26, R33, R37, R70) -/

theorem State.returnSample_sameFaults (p : Pair) (strobe : Option (BitVec 12)) :
    SameFaults s (s.returnSample p strobe) := by
  unfold State.returnSample
  dsimp only
  split
  · exact .refl s
  · split <;> exact ⟨rfl, rfl⟩

theorem State.declareLoss_keepsFaults (p : Pair) : FaultsKept s (s.declareLoss p) := by
  unfold State.declareLoss
  split
  · have begun : FaultsKept s ((s.takeCompletion p).lossBegun p) :=
      (((s.takeCompletion_keepsFaults p).same (.modPair _ p _)).setPairFlag p _).same (State.abandonSweep_sameFaults ..)
    have told (left : Bool) : FaultsKept s (if left then (s.takeCompletion p).lossBegun p
        else ((s.takeCompletion p).lossBegun p).reportLeftBank p) := by
      split
      · exact begun
      · exact begun.trans (State.reportLeftBank_keepsFaults ..)
    exact ((told _).trans (State.cutExchange_keepsFaults _ p)).same (State.arbitrate_sameFaults _)
  · exact .refl s

theorem State.periodBoundary_sameFaults (p : Pair) : SameFaults s (s.periodBoundary p) := by
  have crossed : SameFaults s { s.setPair p (s.pair p).crossBoundary with bank := s.bank.countPeriod p } := ⟨rfl, rfl⟩
  unfold State.periodBoundary
  dsimp only
  split
  · split
    · exact ((crossed.trans (State.setPairFlag_sameFaults ..)).trans (State.considerSweep_sameFaults ..)).trans
        (State.startNext_sameFaults _)
    · exact crossed
  · exact .refl s

theorem State.activityBlock_sameFaults (p : Pair) : SameFaults s (s.activityBlock p) := by
  unfold State.activityBlock
  dsimp only
  split <;> exact ⟨rfl, rfl⟩

theorem State.farMillisecond_keepsFaults (p : Pair) (f3 f4 : Nat) : FaultsKept s (s.farMillisecond p f3 f4) := by
  have taken (b : Bool) : FaultsKept s (if b then s.takeCompletion p else s) := by
    split
    · exact s.takeCompletion_keepsFaults p
    · exact .refl s
  have claimed (t : State) (b : Bool) : FaultsKept t (if b then t.farClaim p else t) := by
    split
    · exact t.farClaim_keepsFaults p
    · exact .refl t
  have kept (t : State) (b : Bool) : FaultsKept t (if b then t.farKeep p else t) := by
    split
    · exact (t.farKeep_sameFaults p).kept
    · exact .refl t
  unfold State.farMillisecond
  dsimp only
  split
  · exact .refl s
  · exact (((taken _).same (.modPair _ p _)).trans (claimed _ _)).trans (kept _ _)

theorem State.passBegin_sameFaults (p : Pair) : SameFaults s (s.passBegin p) := by
  unfold State.passBegin
  split <;> exact ⟨rfl, rfl⟩

theorem State.takeDelivery_keepsFaults (p : Pair) (ms : List WindowMeasurement) : FaultsKept s (s.takeDelivery p ms) := by
  unfold State.takeDelivery
  split
  · dsimp only
    split
    · exact ((SameFaults.modPair s p _).trans (State.abandonSweep_sameFaults ..)).kept.trans
        (State.reportLeftBank_keepsFaults ..)
    · exact (SameFaults.modPair s p _).kept
  · exact .refl s

theorem State.passEnd_keepsFaults (p : Pair) : FaultsKept s (s.passEnd p) := by
  unfold State.passEnd
  split
  · split
    · have idle : SameFaults s { s with bank := .idle } := ⟨rfl, rfl⟩
      exact (idle.kept.trans (State.takeDelivery_keepsFaults ..)).same (State.arbitrate_sameFaults _)
    · exact .refl s
  · exact .refl s

/-! ### The clock -/

theorem State.tick_sameFaults : SameFaults s s.tick := by
  have ended (s : State) (p : Pair) : SameFaults s (s.endLastSymbol p) := by
    unfold State.endLastSymbol
    split
    · exact s.releaseTone_sameFaults p
    · exact .refl s
  have timed : SameFaults s s.tickTime := by
    unfold State.tickTime
    split <;> exact ⟨rfl, rfl⟩
  have ticked (t : State) (ps : PerPair PairState) (es : List QueueEntry) (port : PortState) :
      SameFaults t { t with pairs := ps, queue := es, port := port } := ⟨rfl, rfl⟩
  exact ((timed.trans (ticked _ _ _ _)).trans (.foldl ended allPairs _)).trans (State.transmit_sameFaults _)

/-! ### Requests -/

theorem withPair_sameFaults {s : State} {f : Pair → State → State × Answer} (hf : ∀ p, SameFaults s (f p s).1)
    (b : Byte) : SameFaults s (withPair b f s).1 := withPair_kept (I := SameFaults s) (.refl s) hf b

theorem withPair_keepsFaults {s : State} {f : Pair → State → State × Answer} (hf : ∀ p, FaultsKept s (f p s).1)
    (b : Byte) : FaultsKept s (withPair b f s).1 := withPair_kept (I := FaultsKept s) (.refl s) hf b

/-! The requests that leave the fault list alone. -/

theorem ownConfigurePair_sameFaults (b : Byte) (ps : List Word) : SameFaults s (ownConfigurePair b ps s).1 := by
  refine withPair_sameFaults (fun p => ?_) b
  dsimp only
  split
  · exact .refl s
  · split <;> exact ⟨rfl, rfl⟩

theorem ownInjectFault_sameFaults (b first : Byte) (f : Half) : SameFaults s (ownInjectFault b first f s).1 := by
  refine withPair_sameFaults (fun p => ?_) b
  dsimp only
  split
  · exact .refl s
  · split
    · exact .refl s
    · split <;> exact ⟨rfl, rfl⟩

theorem ownTakeRole_sameFaults (b : Byte) : SameFaults s (ownTakeRole b s).1 := by
  refine withPair_sameFaults (fun p => ?_) b
  split <;> exact ⟨rfl, rfl⟩

theorem ownEditRepeater_sameFaults (b i c : Byte) (low high presence baseline : Half) (x : Byte) :
    SameFaults s (ownEditRepeater b i c low high presence baseline x s).1 := by
  have edited (p : Pair) (k : Nat) (cs : EditChanges) : SameFaults s (s.edited p k cs) := by
    unfold State.edited
    dsimp only
    split
    · exact (SameFaults.modPair s p _).trans (State.considerSweep_sameFaults ..)
    · exact .modPair s p _
  unfold ownEditRepeater
  split
  · exact .refl s
  · split
    · exact .refl s
    · refine withPair_sameFaults (fun p => ?_) b
      dsimp only
      split
      · exact .refl s
      · split
        · exact .refl s
        · split <;> exact edited p _ _

theorem ownReadResults_sameFaults (b r start c : Byte) : SameFaults s (ownReadResults b r start c s).1 := by
  unfold ownReadResults
  split
  · exact .refl s
  · refine withPair_sameFaults (fun p => ?_) b
    dsimp only
    split
    · split <;> exact ⟨rfl, rfl⟩
    · split <;> exact ⟨rfl, rfl⟩

theorem ownReadTrace_sameFaults (b i : Byte) : SameFaults s (ownReadTrace b i s).1 := by
  refine withPair_sameFaults (fun p => ?_) b
  have refreshed : SameFaults s (if (s.pair p).readout.isNone then s.setPair p (s.pair p).refresh else s) := by
    split <;> exact ⟨rfl, rfl⟩
  dsimp only
  split
  · exact refreshed
  · split <;> exact refreshed

theorem ownLearnBaseline_sameFaults (b n m : Byte) : SameFaults s (ownLearnBaseline b n m s).1 := by
  refine withPair_sameFaults (fun p => ?_) b
  dsimp only
  split
  · exact .refl s
  · split
    · exact .refl s
    · split
      · exact .refl s
      · split <;> exact ⟨rfl, rfl⟩

theorem ownAbortLearn_sameFaults (b : Byte) : SameFaults s (ownAbortLearn b s).1 := by
  refine withPair_sameFaults (fun p => ?_) b
  split
  · exact .refl s
  · exact s.abandonLearning_sameFaults ..

theorem ownSupervise_sameFaults (tag b i c a : Byte) : SameFaults s (ownSupervise tag b i c a s).1 := by
  refine withPair_sameFaults (fun p => ?_) b
  have joined (o : Origin) (i : Nat) (c : Command) (n : Nat) : SameFaults s (s.enqueue o p i c n).startNext :=
    (s.withQueue_sameFaults _).trans (State.startNext_sameFaults _)
  dsimp only
  split
  · exact .refl s
  · split
    · exact .refl s
    · split
      · exact .refl s
      · split
        · exact .refl s
        · split
          · exact joined ..
          · exact .refl s

/-! The requests that may change it. -/

theorem ownSetPairMode_keepsFaults (b m : Byte) : FaultsKept s (ownSetPairMode b m s).1 := by
  refine withPair_keepsFaults (fun p => ?_) b
  have taken := s.takeCompletion_keepsFaults p
  split
  · unfold setDisabled parkOrRefuse
    split
    · exact .refl s
    · split <;> exact .refl s
    · split
      · exact .refl s
      · dsimp only
        split
        · exact taken.same (State.replan_sameFaults ..)
        · exact taken.trans (State.park_keepsFaults ..)
  · unfold setEnabled
    split
    · exact SameFaults.kept ⟨rfl, rfl⟩
    · exact (taken.same (State.setRole_sameFaults ..)).trans (State.leaveMode_keepsFaults ..)
    · exact .refl s
  · unfold setSynthetic
    split
    · exact ((SameFaults.modPair s p _).trans (State.enterSynthetic_sameFaults ..)).kept
    · exact (s.enterSynthetic_sameFaults p).kept
    · exact .refl s
  · exact .refl s

theorem ownReleaseRole_keepsFaults (b m : Byte) : FaultsKept s (ownReleaseRole b m s).1 := by
  refine withPair_keepsFaults (fun p => ?_) b
  split
  · exact .refl s
  · split
    · exact (s.takeCompletion_keepsFaults p).trans (State.enterYielding_keepsFaults ..)
    · exact (s.endClaim_sameFaults ..).kept
    all_goals exact .refl s

/-- A load with first index 1 removes the pair's records (R46). -/
theorem ownLoadRepeaters_keepsFaults (b first : Byte) (ls : List LoadRecord) :
    FaultsKept s (ownLoadRepeaters b first ls s).1 := by
  have removed (p : Pair) : FaultsKept s (s.removeFaults p) :=
    FaultsKept.same (.sublist List.filter_sublist) (State.setPairFlagIf_sameFaults ..)
  refine withPair_keepsFaults (fun p => ?_) b
  dsimp only
  split
  · exact .refl s
  · split
    · exact .refl s
    · split
      · exact .refl s
      · split
        · exact .refl s
        · unfold State.storeRecords
          dsimp only
          split
          · exact (removed p).same (.modPair _ p _)
          · exact (SameFaults.modPair s p _).kept

theorem ownPurgeFault_keepsFaults (o : Byte) (i : Half) (sel : Byte) : FaultsKept s (ownPurgeFault o i sel s).1 := by
  unfold ownPurgeFault
  split
  · unfold purgeOne
    split
    · exact .refl s
    · split
      · exact .refl s
      · split
        · exact .refl s
        · exact .sublist (dropFirst_sublist _ _)
  · unfold purgeCleared
    split
    · exact .refl s
    · exact .sublist List.filter_sublist
  · exact .refl s

theorem State.hostSequence_keepsFaults (id : Half) (r : FaultRecord) (a : Action) (w : Option Half) :
    FaultsKept s (s.hostSequence id r a w).1 := (s.startSequence_keepsFaults ..).same (State.startNext_sameFaults _)

theorem ownIsolate_keepsFaults (i : Half) (a : Byte) : FaultsKept s (ownIsolate i a s).1 := by
  unfold ownIsolate
  split
  · exact .refl s
  · split
    · exact .refl s
    · split
      · exact .refl s
      · split
        · exact .refl s
        · split
          · exact .refl s
          · split
            · exact s.hostSequence_keepsFaults ..
            · exact .refl s

theorem ownReleaseIsolation_keepsFaults (i : Half) : FaultsKept s (ownReleaseIsolation i s).1 := by
  unfold ownReleaseIsolation
  split
  · exact .refl s
  · split
    · exact .refl s
    · split
      · exact .refl s
      · split
        · exact .refl s
        · exact s.hostSequence_keepsFaults ..

theorem requestOwner_keepsFaults (tag : Byte) {r : Request} (hr : changesBlocks r = true) :
    FaultsKept s (requestOwner tag r s).1 := by
  cases r with
  | configurePair p ps => exact (ownConfigurePair_sameFaults s p ps).kept
  | setPairMode p m => exact ownSetPairMode_keepsFaults s p m
  | injectFault p f q => exact (ownInjectFault_sameFaults s p f q).kept
  | takeRole p => exact (ownTakeRole_sameFaults s p).kept
  | releaseRole p m => exact ownReleaseRole_keepsFaults s p m
  | loadRepeaters p f rs => exact ownLoadRepeaters_keepsFaults s p f rs
  | editRepeater p i c lo hi pr b x => exact (ownEditRepeater_sameFaults s p i c lo hi pr b x).kept
  | readResults p r f c => exact (ownReadResults_sameFaults s p r f c).kept
  | readTrace p i => exact (ownReadTrace_sameFaults s p i).kept
  | learnBaseline p n m => exact (ownLearnBaseline_sameFaults s p n m).kept
  | abortLearn p => exact (ownAbortLearn_sameFaults s p).kept
  | purgeFault o i sel => exact ownPurgeFault_keepsFaults s o i sel
  | isolate i a => exact ownIsolate_keepsFaults s i a
  | releaseIsolation i => exact ownReleaseIsolation_keepsFaults s i
  | supervise p i c a => exact (ownSupervise_sameFaults s tag p i c a).kept
  | _ => cases hr

/-! ### Every step -/

theorem blockEvent_keepsFaults {i : Instr} {f : State → State} (hf : blockEvent i = some f) : FaultsKept s (f s) := by
  cases i with
  | returnSample p x => cases hf; exact (s.returnSample_sameFaults p x).kept
  | returnLossDeclared p => cases hf; exact s.declareLoss_keepsFaults p
  | periodBoundary p => cases hf; exact (s.periodBoundary_sameFaults p).kept
  | farActivityBlock p => cases hf; exact (s.activityBlock_sameFaults p).kept
  | farToneMillisecond p f3 f4 => cases hf; exact s.farMillisecond_keepsFaults p f3 f4
  | passBegin p => cases hf; exact (s.passBegin_sameFaults p).kept
  | passEnd p => cases hf; exact s.passEnd_keepsFaults p
  | sweepCompletion p => cases hf; exact s.completeSweep_keepsFaults p
  | commandFrameEnd => cases hf; exact s.frameEnd_keepsFaults
  | driveErrorStop => cases hf; exact s.driveStop_keepsFaults
  | receptionStart => cases hf; exact s.receptionStart_sameFaults.kept
  | replyBit => cases hf; exact s.replyBit_keepsFaults
  | claimBurstEnd p => cases hf; exact (s.claimBurstEnd_sameFaults p).kept
  | keepBurstEnd p => cases hf; exact (s.keepBurstEnd_sameFaults p).kept
  | claimWon p => cases hf; exact (s.claimWon_sameFaults p).kept
  | claimTimeout p => cases hf; exact (s.claimTimeout_sameFaults p).kept
  | collision p => cases hf; exact s.collide_keepsFaults p
  | toneSymbolMidpoint readback => cases hf; exact (s.midpoint_sameFaults readback).kept
  | _ => cases hf

end

theorem BlocksAgree.sameFaults {s t : State} (h : BlocksAgree s t) : SameFaults s t := ⟨h.faults, h.nextFaultId⟩

/-- After a reset the list is empty, whatever it held before. -/
theorem BlocksAtReset.keepsFaults {s t : State} (h : BlocksAtReset t) : FaultsKept s t where
  list _ := ⟨by simp [h.faults], by simp [h.faults], by simp [h.faults], by simp [h.nextFaultId]⟩
  actions _ _ := by simp [FaultActionInv, h.faults]

/-- What a state has kept of an earlier one is an invariant of the blocks. -/
theorem faultsKept_blockInvariant (s : State) : BlockInvariant (FaultsKept s) where
  agree h hb := h.same hb.sameFaults
  reset := BlocksAtReset.keepsFaults
  owner tag _ t hr h := h.trans (requestOwner_keepsFaults t tag hr)
  event {_ _} t hf h := h.trans (blockEvent_keepsFaults t hf)
  tick {t} h := h.same t.tick_sameFaults

theorem step_keepsFaults {s t : State} (h : step s = .next t) : FaultsKept s t :=
  (faultsKept_blockInvariant s).step (.refl s) h

/-- Settles O58: each operation of the blocks keeps the list, and of a sound list the action parts, since an id names one
record (`FaultsKept`); the passes of stage 4 meet each record as they have found it (`FaultsKept.pass`). -/
theorem stepKeepsFaultList : Obligations.StepKeepsFaultList :=
  ⟨fun _ _ hl h => (step_keepsFaults h).list hl, fun _ _ hl ha h => (step_keepsFaults h).actions hl ha⟩

end Sys2Proof.Machine
end

section
/-! LIST FAULTS, READ FAULT and PURGE FAULT (R98 to R101): what their owners answer, and which records a purge removes. -/

namespace Sys2Proof.Machine

theorem selects_eq (selector : Byte) (r : FaultRecord) :
    selects selector r = (selector == 0 || selector.toNat == pairNumber r.pair) := by
  unfold selects
  congr 1
  rw [Bool.eq_iff_iff, beq_iff_eq, beq_iff_eq]
  exact byte_toNat_eq_zero

theorem half_toNat_eq_zero {id : Half} : id.toNat = 0 ↔ id = 0 :=
  ⟨fun h => BitVec.eq_of_toNat_eq h, fun h => by rw [h]; rfl⟩

/-- The record of an id is the first of the list that has it. -/
theorem State.faultAt_of_split {s : State} {before after : List FaultRecord} {r : FaultRecord} {id : Nat}
    (hs : s.faults = before ++ r :: after) (hr : r.id = id) (hb : ∀ x ∈ before, x.id ≠ id) : s.faultAt id = some r := by
  unfold State.faultAt
  rw [hs]
  exact find_of_split after (fun x hx => beq_false_of_ne (hb x hx)) (beq_iff_eq.mpr hr)

/-! ### LIST FAULTS (R98) -/

section
variable {tag selector : Byte} {id : Half} {s t : State} {a : Answer}

theorem exec_listFaults (hs : s.Ready) (ho : ownListFaults selector id s = (t, a)) :
    exec (.listFaults tag selector id) s = .next (t.replied 0xB0 tag (a.status.code :: a.data)) :=
  exec_answers (r := .listFaults selector id) hs rfl rfl ho

/-- The data of a page from a place in the list on: its head, and at most eight of the selected records. -/
def faultPage (selector : Byte) (count : Nat) (rest : List FaultRecord) : List Byte :=
  let chosen := rest.filter fun r => selector == 0 || selector.toNat == pairNumber r.pair
  u8 count ++ u8 (min 8 chosen.length) ++ u16 (((chosen[8]?).map (·.id)).getD 0)
    ++ (chosen.take 8).flatMap FaultRecord.summary

theorem ownListFaults_refused (h : 4 < selector.toNat) : ownListFaults selector id s = (s, .refused .badValue) := if_pos h

/-- The page begins at the record of the from-id, or with the list where that is 0. -/
theorem ownListFaults_page (h : selector.toNat ≤ 4) {rest : List FaultRecord}
    (hfound : id ≠ 0 → (s.faultAt id.toNat).isSome = true)
    (hrest : (if id.toNat = 0 then s.faults else s.faults.dropWhile fun r => r.id != id.toNat) = rest) :
    ownListFaults selector id s = (s, .ok (faultPage selector s.faults.length rest)) := by
  have present : ¬(id.toNat ≠ 0 ∧ (s.faultAt id.toNat).isNone = true) := by
    rintro ⟨hid, missing⟩
    have found := hfound (mt half_toNat_eq_zero.mpr hid)
    simp_all
  unfold ownListFaults
  rw [if_neg (Nat.not_lt.mpr h), if_neg present, hrest, funext (selects_eq selector)]
  simp [faultPage, Config.pageFaults, List.length_take, List.head?_drop]

end

/-! ### READ FAULT (R99) -/

section
variable {tag : Byte} {id : Half} {s t : State} {a : Answer} {r : FaultRecord}

theorem exec_readFault (hs : s.Ready) (ho : ownReadFault id s = (t, a)) :
    exec (.readFault tag id) s = .next (t.replied 0xB1 tag (a.status.code :: a.data)) :=
  exec_answers (r := .readFault id) hs rfl rfl ho

theorem ownReadFault_found (h : id ≠ 0) (hr : s.faultAt id.toNat = some r) : ownReadFault id s = (s, .ok r.encode) := by
  unfold ownReadFault
  rw [if_neg (mt half_toNat_eq_zero.mp h), hr]

theorem ownReadFault_notFound (h : id = 0 ∨ s.faultAt id.toNat = none) :
    ownReadFault id s = (s, .refused .notFound) := by
  unfold ownReadFault
  split
  · rfl
  next hid => rw [h.resolve_left (mt half_toNat_eq_zero.mpr hid)]

end

/-- Settles O31: each owner answers from the list as it stands and leaves the state (`ownListFaults_page`,
`ownReadFault_found`, `ownReadFault_notFound`). -/
theorem faultReadsAnswerAndKeep : Obligations.FaultReadsAnswerAndKeep := by
  intro tag selector id s hs
  refine ⟨fun h => exec_listFaults hs (ownListFaults_refused h), fun h => ?_, fun before r after h hid hsplit hr hb => ?_,
    fun r hid hr => exec_readFault hs (ownReadFault_found hid hr),
    fun h => exec_readFault hs (ownReadFault_notFound h)⟩
  · exact exec_listFaults hs (ownListFaults_page h (fun h => absurd rfl h) rfl)
  · have found := State.faultAt_of_split hsplit hr hb
    have rest : (s.faults.dropWhile fun x => x.id != id.toNat) = r :: after := by
      rw [hsplit, List.dropWhile_append_of_pos fun x hx => bne_iff_ne.mpr (hb x hx),
        List.dropWhile_cons_of_neg (by simp [hr])]
    refine exec_listFaults hs (ownListFaults_page h (fun _ => by rw [found]; rfl) ?_)
    rw [if_neg (mt half_toNat_eq_zero.mp hid), rest]

/-! ### PURGE FAULT (R100, R101) -/

section
variable {tag selector : Byte} {id : Half} {s t : State} {a : Answer} {r : FaultRecord}

theorem exec_purgeFault (hs : s.Ready) (ho : purgeOne id s = (t, a)) :
    exec (.purgeFault tag id) s = .next (t.replied 0xB2 tag (a.status.code :: a.data)) :=
  exec_answers (r := .purgeFault 0 id 0) hs rfl rfl ho

theorem exec_purgeFaultAllCleared (hs : s.Ready) (ho : purgeCleared selector s = (t, a)) :
    exec (.purgeFaultAllCleared tag selector) s = .next (t.replied 0xB2 tag (a.status.code :: a.data)) :=
  exec_answers (r := .purgeFault 1 0 selector) hs rfl rfl ho

theorem purgeOne_notFound (h : id = 0 ∨ s.faultAt id.toNat = none) : purgeOne id s = (s, .refused .notFound) := by
  unfold purgeOne
  split
  · rfl
  next hid => rw [h.resolve_left (mt half_toNat_eq_zero.mpr hid)]

theorem purgeOne_found (h : id ≠ 0) (hr : s.faultAt id.toNat = some r) :
    purgeOne id s = if r.state ≠ .cleared then (s, .refused .wrongState)
      else ({ s with faults := dropFirst (fun r => r.id == id.toNat) s.faults }, .ok [1]) := by
  unfold purgeOne
  rw [if_neg (mt half_toNat_eq_zero.mp h), hr]

/-- Whether a purge of a selector's cleared records removes a record (R101). -/
def FaultRecord.purged (selector : Byte) (r : FaultRecord) : Bool :=
  decide (r.state = .cleared) && (selector == 0 || selector.toNat == pairNumber r.pair)

/-- The records that stay and those that go make up the list. -/
theorem purgeCleared_eq (h : selector.toNat ≤ 4) :
    purgeCleared selector s = ({ s with faults := s.faults.filter fun r => !r.purged selector },
      .ok [BitVec.ofNat 8 (s.faults.filter (·.purged selector)).length]) := by
  have kept : (fun r : FaultRecord => r.isOpen || !selects selector r) = fun r => !r.purged selector := by
    funext r
    simp [FaultRecord.isOpen, FaultRecord.purged, selects_eq]
  have count := List.length_eq_length_filter_add (l := s.faults) (·.purged selector)
  have gone : s.faults.length - (s.faults.filter fun r => !r.purged selector).length
      = (s.faults.filter (·.purged selector)).length := by omega
  unfold purgeCleared
  rw [if_neg (Nat.not_lt.mpr h), kept]
  dsimp only
  rw [gone]
  rfl

end

/-- Settles O32: the owner of one id drops its record where that is CLEARED (`purgeOne_found`), the owner of a selector
keeps what is not purged and counts what is (`purgeCleared_eq`). -/
theorem purgeRemovesClearedRecords : Obligations.PurgeRemovesClearedRecords := by
  intro tag selector id s hs
  refine ⟨fun h => exec_purgeFault hs (purgeOne_notFound h), fun r hid hr hstate => ?_,
    fun before r after hid hsplit hb hr hstate => ?_, fun h => exec_purgeFaultAllCleared hs (if_pos h),
    fun h => exec_purgeFaultAllCleared hs (purgeCleared_eq h)⟩
  · have owned := purgeOne_found hid hr
    rw [if_pos hstate] at owned
    exact exec_purgeFault hs owned
  · have owned := purgeOne_found hid (State.faultAt_of_split hsplit hr hb)
    have dropped : dropFirst (fun r => r.id == id.toNat) s.faults = before ++ after := by
      rw [hsplit]
      exact dropFirst_of_split after (fun x hx => beq_false_of_ne (hb x hx)) (beq_iff_eq.mpr hr)
    rw [if_neg (not_not.mpr hstate), dropped] at owned
    exact exec_purgeFault hs owned

end Sys2Proof.Machine
end

section
/-! Candidates (R84 to R86): the segments of a sequence with one run of deviating outcomes, the class of a segment, and the
ratio that is picked for it. -/

namespace Sys2Proof.Machine

/-! ### Segments (R84) -/

theorem segmentsFrom_skip {pre : List Known} (h : ∀ k ∈ pre, k.outcome.deviates = false) (ks : List Known) :
    segmentsFrom [] (pre ++ ks) = segmentsFrom [] ks := by
  induction pre with
  | nil => rfl
  | cons k pre ih =>
    have hk := h k (by simp)
    simpa [segmentsFrom, hk] using ih fun x hx => h x (by simp [hx])

theorem segmentsFrom_none {ks : List Known} (h : ∀ k ∈ ks, k.outcome.deviates = false) : segmentsFrom [] ks = [] := by
  rw [← List.append_nil ks, segmentsFrom_skip h]
  rfl

theorem segmentsFrom_gather {run : List Known} (h : ∀ k ∈ run, k.outcome.deviates = true) (met ks : List Known) :
    segmentsFrom met (run ++ ks) = segmentsFrom (met ++ run) ks := by
  induction run generalizing met with
  | nil => rw [List.nil_append, List.append_nil]
  | cons k run ih =>
    have hk := h k (by simp)
    rw [List.cons_append, segmentsFrom, if_pos hk, ih fun x hx => h x (by simp [hx])]
    simp

/-- What has been met closes into a segment, at a NORMAL outcome or at the end. -/
theorem segmentsFrom_close {met post : List Known} (hm : met ≠ []) (h : ∀ k ∈ post, k.outcome.deviates = false) :
    segmentsFrom met post = [⟨met, post.isEmpty⟩] := by
  cases post with
  | nil =>
    cases met with
    | nil => exact absurd rfl hm
    | cons => rfl
  | cons k post =>
    have hk := h k (by simp)
    rw [segmentsFrom, hk, segmentsFrom_none fun x hx => h x (by simp [hx])]
    simp [hm]

/-- One run of deviating outcomes among NORMAL ones is one segment (R84). -/
theorem segments_of_run {pre run post : List Known} (hn : ∀ k ∈ pre ++ post, k.outcome = .normal) (hr : run ≠ [])
    (hd : ∀ k ∈ run, k.outcome = .low ∨ k.outcome = .high ∨ k.outcome = .absent) :
    segments (pre ++ run ++ post) = [⟨run, post.isEmpty⟩] := by
  have normal (k : Known) (hk : k ∈ pre ++ post) : k.outcome.deviates = false := by rw [hn k hk]; rfl
  have deviating (k : Known) (hk : k ∈ run) : k.outcome.deviates = true := by
    rcases hd k hk with e | e | e <;> rw [e] <;> rfl
  have known (k : Known) (hk : k ∈ pre ++ run ++ post) : decide (k.outcome ≠ .unknown) = true := by
    by_cases inRun : k ∈ run
    · rcases hd k inRun with e | e | e <;> rw [e] <;> rfl
    · have outside : k ∈ pre ++ post := by simpa [inRun] using hk
      rw [hn k outside]
      rfl
  unfold segments
  rw [List.filter_eq_self.mpr known, List.append_assoc, segmentsFrom_skip fun k hk => normal k (by simp [hk]),
    segmentsFrom_gather deviating, List.nil_append, segmentsFrom_close hr fun k hk => normal k (by simp [hk])]

/-! ### The picked ratio (R86) -/

/-- A rule that prefers in one direction and whose refusals chain picks a best ratio of the list. -/
theorem pickRatio_best {better : Nat → Nat → Bool} (asymm : ∀ x y, better x y = true → better y x = false)
    (chain : ∀ x y z, better x y = false → better y z = false → better x z = false) {xs : List Nat} (hx : xs ≠ []) :
    ∃ m ∈ xs, pickRatio better xs = some m ∧ ∀ x ∈ xs, better x m = false := by
  have irrefl (x : Nat) : better x x = false := by
    cases h : better x x
    · rfl
    · exact h.symm.trans (asymm x x h)
  have folded (xs : List Nat) (m : Nat) : ∃ b ∈ m :: xs,
      xs.foldl (fun best x => if better x best then x else best) m = b ∧ ∀ x ∈ m :: xs, better x b = false := by
    induction xs generalizing m with
    | nil => exact ⟨m, by simp, rfl, by simp [irrefl]⟩
    | cons y ys ih =>
      obtain ⟨b, hb, found, best⟩ := ih (if better y m then y else m)
      have head := best _ List.mem_cons_self
      have rest (x : Nat) (hx : x ∈ ys) := best x (List.mem_cons_of_mem _ hx)
      refine ⟨b, ?_, found, ?_⟩
      · rcases List.mem_cons.mp hb with rfl | hb
        · split <;> simp
        · simp [hb]
      · by_cases h : better y m = true
        · rw [if_pos h] at head
          simpa [head, chain m y b (asymm y m h) head] using rest
        · rw [if_neg h] at head
          simpa [head, chain y m b (Bool.eq_false_iff.mpr h) head] using rest
  cases xs with
  | nil => exact absurd rfl hx
  | cons x xs =>
    obtain ⟨b, hb, found, best⟩ := folded xs x
    exact ⟨b, hb, congrArg some found, best⟩

/-- The ratio picked for a segment is that of a member with a wanted outcome that no other such member betters. -/
theorem Segment.pickRatio_member {better : Nat → Nat → Bool} (asymm : ∀ x y, better x y = true → better y x = false)
    (chain : ∀ x y z, better x y = false → better y z = false → better x z = false) {g : Segment}
    {wanted : EchoOutcome → Bool} (hw : ∃ k ∈ g.members, wanted k.outcome = true) :
    ∃ k ∈ g.members, wanted k.outcome = true ∧ pickRatio better (g.ratios wanted) = some k.ratio
      ∧ ∀ x ∈ g.members, wanted x.outcome = true → better x.ratio k.ratio = false := by
  have mem {x : Known} (hx : x ∈ g.members) (h : wanted x.outcome = true) : x.ratio ∈ g.ratios wanted :=
    List.mem_map_of_mem (List.mem_filter.mpr ⟨hx, h⟩)
  obtain ⟨k₀, hk₀, h₀⟩ := hw
  obtain ⟨m, hm, picked, best⟩ := pickRatio_best asymm chain (List.ne_nil_of_mem (mem hk₀ h₀))
  obtain ⟨k, hk, rfl⟩ := List.mem_map.mp hm
  obtain ⟨hk, wk⟩ := List.mem_filter.mp hk
  exact ⟨k, hk, wk, picked, fun x hx h => best _ (mem hx h)⟩

theorem farther_asymm (x y : Nat) (h : farther x y = true) : farther y x = false := by
  unfold farther at *
  simp only [Bool.or_eq_true, Bool.and_eq_true, decide_eq_true_eq, Bool.or_eq_false_iff, Bool.and_eq_false_iff,
    decide_eq_false_iff_not] at *
  omega

theorem farther_chain (x y z : Nat) (hxy : farther x y = false) (hyz : farther y z = false) : farther x z = false := by
  unfold farther at *
  simp only [Bool.or_eq_false_iff, Bool.and_eq_false_iff, decide_eq_false_iff_not] at *
  omega

/-! ### Classes and candidates (R85, R86) -/

section
variable {g : Segment}

theorem Segment.cls_of_all_high (h : ∀ k ∈ g.members, k.outcome = .high) : g.cls = .surge := by
  unfold Segment.cls
  exact if_pos (List.all_eq_true.mpr fun k hk => decide_eq_true (h k hk))

theorem Segment.cls_of_some_high (h : ∃ k ∈ g.members, k.outcome = .high) (hn : ∃ k ∈ g.members, k.outcome ≠ .high) :
    g.cls = .unstable := by
  obtain ⟨k, hk, high⟩ := h
  obtain ⟨x, hx, other⟩ := hn
  have notAll : ¬(g.members.all fun k => decide (k.outcome = .high)) = true :=
    fun all => other (of_decide_eq_true (List.all_eq_true.mp all x hx))
  have any : (g.members.any fun k => decide (k.outcome = .high)) = true :=
    List.any_eq_true.mpr ⟨k, hk, decide_eq_true high⟩
  unfold Segment.cls
  dsimp only
  rw [if_neg notAll, if_pos any]

/-- Without a HIGH the class follows from whether the segment reaches the end and whether it is all ABSENT (R85). -/
theorem Segment.cls_of_no_high (hne : g.members ≠ []) (h : ∀ k ∈ g.members, k.outcome ≠ .high) :
    g.cls = if g.reachesEnd then (if ∀ k ∈ g.members, k.outcome = .absent then .break else .step)
      else if g.members.length = 1 ∧ ∀ k ∈ g.members, k.outcome = .absent then .loopbackLoss else .dip := by
  obtain ⟨x, hx⟩ := List.exists_mem_of_ne_nil _ hne
  have notAll : ¬(g.members.all fun k => decide (k.outcome = .high)) = true :=
    fun all => h x hx (of_decide_eq_true (List.all_eq_true.mp all x hx))
  have notAny : ¬(g.members.any fun k => decide (k.outcome = .high)) = true := by simpa using h
  unfold Segment.cls
  dsimp only
  rw [if_neg notAll, if_neg notAny]
  simp only [List.all_eq_true, decide_eq_true_eq]

theorem Segment.cls_of_all_absent (hne : g.members ≠ []) (h : ∀ k ∈ g.members, k.outcome = .absent) :
    g.cls = if g.reachesEnd then .break else if g.members.length = 1 then .loopbackLoss else .dip := by
  rw [Segment.cls_of_no_high hne fun k hk => by simp [h k hk], if_pos h]
  simp only [and_iff_left h]

theorem Segment.cls_of_some_low (h : ∀ k ∈ g.members, k.outcome ≠ .high) (hl : ∃ k ∈ g.members, k.outcome = .low) :
    g.cls = if g.reachesEnd then .step else .dip := by
  obtain ⟨k, hk, low⟩ := hl
  have notAbsent : ¬∀ k ∈ g.members, k.outcome = .absent := fun all => by simp [all k hk] at low
  rw [Segment.cls_of_no_high (List.ne_nil_of_mem hk) h]
  simp only [notAbsent, and_false, if_false]

/-- The highest HIGH ratio of a SURGE. -/
theorem Segment.ratio_of_surge (hc : g.cls = .surge) (h : ∃ k ∈ g.members, k.outcome = .high) :
    ∃ k ∈ g.members, g.ratio = some k.ratio ∧ ∀ x ∈ g.members, x.outcome = .high → x.ratio ≤ k.ratio := by
  obtain ⟨k, hk, _, picked, best⟩ := Segment.pickRatio_member (better := fun x y => decide (y < x)) (g := g)
    (wanted := (· == .high)) (by simp; omega) (by simp; omega) (by simpa using h)
  refine ⟨k, hk, ?_, fun x hx high => ?_⟩
  · unfold Segment.ratio
    rw [hc]
    exact picked
  · simpa using best x hx (by simp [high])

/-- The lowest LOW ratio of a DIP or a STEP. -/
theorem Segment.ratio_of_low (hc : g.cls = .dip ∨ g.cls = .step) (h : ∃ k ∈ g.members, k.outcome = .low) :
    ∃ k ∈ g.members, k.outcome = .low ∧ g.ratio = some k.ratio
      ∧ ∀ x ∈ g.members, x.outcome = .low → k.ratio ≤ x.ratio := by
  obtain ⟨k, hk, low, picked, best⟩ := Segment.pickRatio_member (better := fun x y => decide (x < y)) (g := g)
    (wanted := (· == .low)) (by simp; omega) (by simp; omega) (by simpa using h)
  refine ⟨k, hk, by simpa using low, ?_, fun x hx high => ?_⟩
  · unfold Segment.ratio
    rcases hc with hc | hc <;> rw [hc] <;> exact picked
  · simpa using best x hx (by simp [high])

/-- The ratio of an UNSTABLE that lies farthest from 1024, the lower of two as far (R86). -/
theorem Segment.ratio_of_unstable (hc : g.cls = .unstable) (h : ∃ k ∈ g.members, k.outcome = .high) :
    ∃ k ∈ g.members, (k.outcome = .low ∨ k.outcome = .high) ∧ g.ratio = some k.ratio
      ∧ ∀ x ∈ g.members, (x.outcome = .low ∨ x.outcome = .high) → fromBaseline x.ratio ≤ fromBaseline k.ratio
        ∧ (fromBaseline x.ratio = fromBaseline k.ratio → k.ratio ≤ x.ratio) := by
  obtain ⟨k₀, hk₀, high⟩ := h
  obtain ⟨k, hk, wanted, picked, best⟩ := Segment.pickRatio_member (better := farther) (g := g)
    (wanted := fun o => o == .low || o == .high) farther_asymm farther_chain ⟨k₀, hk₀, by simp [high]⟩
  refine ⟨k, hk, by simpa using wanted, ?_, fun x hx hw => ?_⟩
  · unfold Segment.ratio
    rw [hc]
    exact picked
  · have kept := best x hx (by simpa using hw)
    unfold farther at kept
    simp only [Bool.or_eq_false_iff, Bool.and_eq_false_iff, decide_eq_false_iff_not, not_lt] at kept
    exact ⟨kept.1, fun e => kept.2.resolve_left (not_not.mpr e)⟩

/-- A segment without a LOW or a HIGH has no ratio to pick. -/
theorem Segment.ratio_of_all_absent (hc : g.cls = .break ∨ g.cls = .loopbackLoss ∨ g.cls = .dip)
    (h : ∀ k ∈ g.members, k.outcome = .absent) : g.ratio = none := by
  have noLow : g.ratios (· == .low) = [] := by
    unfold Segment.ratios
    rw [List.filter_eq_nil_iff.mpr fun k hk => by simp [h k hk]]
    rfl
  unfold Segment.ratio
  rcases hc with hc | hc | hc <;> rw [hc]
  dsimp only
  rw [noLow]
  rfl

end

/-- Settles O53: the one run is the one segment (`segments_of_run`); its class follows from its outcomes and from whether
anything follows it, and its ratio is picked by the rule of that class. -/
theorem candidatesAreClassified : Obligations.CandidatesAreClassified := by
  refine ⟨fun ks => ?_, fun pre post hn => ?_, fun pre run post a z hn hd ha hz => ?_⟩
  · unfold candidates segments
    rw [List.filter_filter]
    simp
  · have normal (k : Known) (hk : k ∈ pre ++ post) : k.outcome.deviates = false := by rw [hn k hk]; rfl
    unfold candidates segments
    rw [segmentsFrom_none fun k hk => normal k (List.mem_of_mem_filter hk)]
    rfl
  · have hne : run ≠ [] := by rintro rfl; cases ha
    let g : Segment := ⟨run, post.isEmpty⟩
    have found : candidates (pre ++ run ++ post) = [g.candidate] := by
      unfold candidates
      rw [segments_of_run hn hne hd]
      rfl
    have ends : g.reachesEnd = true ↔ post = [] := List.isEmpty_iff
    refine ⟨g.candidate, found, by simp [Segment.candidate, g, ha], by simp [Segment.candidate, g, hz], fun high => ?_,
      fun high other => ?_, fun absent hp => ?_, fun absent hp hl => ?_, fun absent hp hl => ?_, fun noneHigh low => ?_⟩
    · have cls := Segment.cls_of_all_high (g := g) high
      obtain ⟨k, hk, picked, best⟩ := Segment.ratio_of_surge cls ⟨a, List.mem_of_head? ha, high a (List.mem_of_head? ha)⟩
      exact ⟨cls, k, hk, picked, fun x hx => best x hx (high x hx)⟩
    · have cls := Segment.cls_of_some_high (g := g) high other
      obtain ⟨k, hk, wanted, picked, best⟩ := Segment.ratio_of_unstable cls high
      refine ⟨cls, k, hk, ?_, picked, fun x hx present => best x hx ?_⟩
      · rcases wanted with e | e <;> simp [e]
      · have deviates := hd x hx
        tauto
    · have cls := Segment.cls_of_all_absent (g := g) hne absent
      rw [if_pos (ends.mpr hp)] at cls
      exact ⟨cls, Segment.ratio_of_all_absent (.inl cls) absent⟩
    · have cls := Segment.cls_of_all_absent (g := g) hne absent
      rw [if_neg (mt ends.mp hp), if_pos hl] at cls
      exact ⟨cls, Segment.ratio_of_all_absent (.inr (.inl cls)) absent⟩
    · have cls := Segment.cls_of_all_absent (g := g) hne absent
      rw [if_neg (mt ends.mp hp), if_neg (show run.length ≠ 1 by omega)] at cls
      exact ⟨cls, Segment.ratio_of_all_absent (.inr (.inr cls)) absent⟩
    · have cls := Segment.cls_of_some_low (g := g) noneHigh low
      have either : g.cls = .dip ∨ g.cls = .step := by
        rw [cls]
        split <;> simp
      simp only [ends] at cls
      exact ⟨cls, Segment.ratio_of_low either low⟩

end Sys2Proof.Machine
end

section
/-! The fault list at a completion (R82, R87 to R96): what becomes of a candidate, and how an open record is judged. -/

namespace Sys2Proof.Machine

/-! ### The worst ratio of a matched record (R88) -/

theorem worstAfter_other {old new : FaultClass} (h : old.group ≠ new.group) (worst ratio : Option Nat) :
    worstAfter old new worst ratio = ratio := if_neg h

section
variable {old new : FaultClass} {worst ratio : Option Nat}

theorem worstAfter_nothing (ho : old.group = .nothing) (hn : new.group = .nothing) :
    worstAfter old new worst ratio = none := by
  unfold worstAfter
  rw [if_pos (ho.trans hn.symm), hn]

theorem worstAfter_both {g : RatioGroup} (ho : old.group = g) (hn : new.group = g) (hg : g ≠ .nothing) {a b : Nat}
    (ha : worst = some a) (hb : ratio = some b) : worstAfter old new worst ratio = some (combineRatio g a b) := by
  unfold worstAfter
  rw [if_pos (ho.trans hn.symm), ha, hb, hn]
  cases g with
  | nothing => exact absurd rfl hg
  | _ => rfl

theorem worstAfter_first (h : old.group = new.group) (hn : new.group ≠ .nothing) (hw : worst = none) :
    worstAfter old new worst ratio = ratio := by
  unfold worstAfter
  rw [if_pos h, hw]
  cases hg : new.group with
  | nothing => exact absurd hg hn
  | _ => cases ratio <;> rfl

theorem worstAfter_kept (h : old.group = new.group) (hr : ratio = none) (hn : new.group ≠ .nothing) :
    worstAfter old new worst ratio = worst := by
  unfold worstAfter
  rw [if_pos h, hr]
  cases hg : new.group with
  | nothing => exact absurd hg hn
  | _ => rfl

end

/-! ### A candidate (R87 to R91) -/

section
variable {p : Pair} {number : BitVec 48} {stamp : LineTime} {s : State} {c : Candidate}

/-- A candidate that an open record follows is that record's next sighting (R87). -/
theorem State.matchCandidate_sighted {before after : List FaultRecord} {r : FaultRecord}
    (hs : s.faults = before ++ r :: after) (hb : ∀ x ∈ before, x.follows p c.first = false)
    (hr : r.follows p c.first = true) :
    State.matchCandidate p number stamp s c
      = { s with faults := before ++ r.sight c :: after }.setPairFlagIf (decide (r.cls ≠ c.cls)) p .faultChange := by
  unfold State.matchCandidate
  rw [hs, find_of_split after hb hr, modFirst_of_split _ after hb hr]

theorem State.matchCandidate_unmatched (h : ∀ x ∈ s.faults, x.follows p c.first = false) :
    State.matchCandidate p number stamp s c = s.openOrDrop p c number stamp := by
  unfold State.matchCandidate
  rw [List.find?_eq_none.mpr fun x hx => Bool.eq_false_iff.mp (h x hx)]

theorem State.openOrDrop_room (h : s.faults.length < 32) :
    s.openOrDrop p c number stamp = s.openFault p c number stamp := if_pos h

/-- A full list gives the place of its oldest CLEARED record (R90). -/
theorem State.openOrDrop_evicts (hl : s.faults.length = 32) {before after : List FaultRecord} {r : FaultRecord}
    (hs : s.faults = before ++ r :: after) (hb : ∀ x ∈ before, x.state ≠ .cleared) (hr : r.state = .cleared) :
    s.openOrDrop p c number stamp
      = (({ s with faults := before ++ after } : State).setPairFlag r.pair .faultChange).openFault p c number stamp := by
  have opened (x : FaultRecord) (hx : x ∈ before) : (!x.isOpen) = false := by
    simpa [FaultRecord.isOpen_iff] using hb x hx
  have cleared : (!r.isOpen) = true := by simp [FaultRecord.isOpen, hr]
  have full : ¬s.faults.length < Config.maxFaults := by
    rw [hl]
    exact Nat.lt_irrefl 32
  unfold State.openOrDrop
  rw [if_neg full, hs, find_of_split after opened cleared]
  dsimp only
  unfold State.evictCleared
  rw [hs, dropFirst_of_split after opened cleared]

theorem State.openOrDrop_dropped (hl : s.faults.length = 32) (h : ∀ x ∈ s.faults, x.state ≠ .cleared) :
    s.openOrDrop p c number stamp = s.setPairFlag p .faultListFull := by
  have full : ¬s.faults.length < Config.maxFaults := by
    rw [hl]
    exact Nat.lt_irrefl 32
  unfold State.openOrDrop
  rw [if_neg full, List.find?_eq_none.mpr fun x hx => by simpa [FaultRecord.isOpen_iff] using h x hx]

theorem State.openFault_faultChange : ((s.openFault p c number stamp).port.flags.pairs.get p).faultChange = true :=
  State.setPairFlag_get_same _ p .faultChange

/-- In a list with room an unmatched candidate opens a record (R89). -/
theorem State.matchCandidate_opens (hi : FaultListInv s) (hn : ∀ x ∈ s.faults, x.follows p c.first = false)
    (room : s.faults.length < 32) :
    ∃ id, (State.matchCandidate p number stamp s c).faults = s.faults ++ [newFault id p c number stamp]
      ∧ FirstFreeFrom s.faults s.nextFaultId id
      ∧ (State.matchCandidate p number stamp s c).nextFaultId = id % 65535 + 1
      ∧ ((State.matchCandidate p number stamp s c).port.flags.pairs.get p).faultChange = true := by
  obtain ⟨id, first, faults, next⟩ := State.openFault_list hi.next hi.room p c number stamp
  rw [State.matchCandidate_unmatched hn, State.openOrDrop_room room]
  exact ⟨id, faults, first, next, State.openFault_faultChange⟩

/-- In a full list it opens one in the place of the oldest CLEARED record (R90). -/
theorem State.matchCandidate_replaces (hi : FaultListInv s) (hn : ∀ x ∈ s.faults, x.follows p c.first = false)
    (full : s.faults.length = 32) {before after : List FaultRecord} {r : FaultRecord}
    (hs : s.faults = before ++ r :: after) (hb : ∀ x ∈ before, x.state ≠ .cleared) (hr : r.state = .cleared) :
    ∃ id, (State.matchCandidate p number stamp s c).faults = before ++ after ++ [newFault id p c number stamp]
      ∧ FirstFreeFrom (before ++ after) s.nextFaultId id
      ∧ (State.matchCandidate p number stamp s c).nextFaultId = id % 65535 + 1
      ∧ ((State.matchCandidate p number stamp s c).port.flags.pairs.get p).faultChange = true
      ∧ ((State.matchCandidate p number stamp s c).port.flags.pairs.get r.pair).faultChange = true := by
  let evicted := ({ s with faults := before ++ after } : State).setPairFlag r.pair .faultChange
  have room : evicted.faults.length ≤ 32 := by
    have sublist : (before ++ after).Sublist s.faults := by
      rw [hs]
      exact (List.Sublist.refl before).append (List.sublist_cons_self r after)
    exact sublist.length_le.trans hi.room
  obtain ⟨id, first, faults, next⟩ := State.openFault_list (s := evicted) hi.next room p c number stamp
  rw [State.matchCandidate_unmatched hn, State.openOrDrop_evicts full hs hb hr]
  refine ⟨id, faults, first, next, State.openFault_faultChange, ?_⟩
  have stands := State.setPairFlag_get_same { s with faults := before ++ after } r.pair .faultChange
  exact State.setPairFlag_get_mono _ p r.pair .faultChange .faultChange stands

end

/-! ### The judgement of an open record (R93 to R96) -/

section
variable {q : PairState} {p : Pair} {cs : List Candidate} {stamp : LineTime} {r : FaultRecord}

theorem FaultRecord.judge_other (h : r.pair ≠ p ∨ r.state = .cleared ∨ r.masked = true) : r.judge q p cs stamp = r := by
  refine if_neg fun ⟨hp, ho, hm⟩ => ?_
  rw [FaultRecord.isOpen_iff] at ho
  tauto

theorem FaultRecord.judge_sighted (hp : r.pair = p) (ho : r.state ≠ .cleared) (hm : r.masked = false)
    (hc : ∃ c ∈ cs, c.first = r.first) : r.judge q p cs stamp
      = r.judgeSighted q.config (((recordAt q.records r.first).map (·.history)).getD []) stamp := by
  have seen : (cs.any fun c => c.first == r.first) = true := by simpa using hc
  unfold FaultRecord.judge
  rw [if_pos ⟨hp, FaultRecord.isOpen_iff.mpr ho, by simp [hm]⟩, if_pos seen]

theorem FaultRecord.judge_unsighted (hp : r.pair = p) (ho : r.state ≠ .cleared) (hm : r.masked = false)
    (hc : ∀ c ∈ cs, c.first ≠ r.first) : r.judge q p cs stamp = r.judgeUnsighted q.config stamp := by
  have unseen : ¬(cs.any fun c => c.first == r.first) = true := by simpa using hc
  unfold FaultRecord.judge
  rw [if_pos ⟨hp, FaultRecord.isOpen_iff.mpr ho, by simp [hm]⟩, if_neg unseen]

theorem EchoOutcome.deviates_eq (o : EchoOutcome) : o.deviates = (o == .low || o == .high || o == .absent) := by
  cases o <;> rfl

theorem confirms_iff (m n : Nat) (history : List EchoOutcome) : confirms m n history = true
    ↔ m ≤ ((history.take n).filter fun o => o == .low || o == .high || o == .absent).length := by
  unfold confirms
  rw [decide_eq_true_iff, funext EchoOutcome.deviates_eq]

variable {config : PairConfig} {history : List EchoOutcome}

theorem FaultRecord.judgeSighted_suspect (h : r.state = .suspect) : r.judgeSighted config history stamp
    = if config.confirmM
        ≤ ((history.take config.confirmN).filter fun o => o == .low || o == .high || o == .absent).length then
      { r with absence := 0, state := .confirmed, confirmed := some stamp }
    else { r with absence := 0 } := by
  unfold FaultRecord.judgeSighted
  dsimp only
  simp only [h, confirms_iff]

theorem FaultRecord.judgeSighted_isolated (h : r.state = .isolated) : r.judgeSighted config history stamp
    = { r with
        absence := 0
        state := .unresolved
        action := r.action.map fun a => { a with result := .relapsed } } := by
  unfold FaultRecord.judgeSighted
  dsimp only
  simp only [h]
  rfl

theorem FaultRecord.judgeSighted_else (h : r.state = .confirmed ∨ r.state = .acting ∨ r.state = .unresolved) :
    r.judgeSighted config history stamp = { r with absence := 0 } := by
  unfold FaultRecord.judgeSighted
  dsimp only
  rcases h with h | h | h <;> simp only [h]

theorem FaultRecord.judgeUnsighted_counts (hm : r.masked = false)
    (h : r.state = .suspect ∨ r.state = .confirmed ∨ r.state = .unresolved) : r.judgeUnsighted config stamp
    = if config.clearCount ≤ r.absence + 1 then
      { r with
        absence := r.absence + 1
        state := .cleared
        cleared := some stamp
        neverConfirmed := r.neverConfirmed || decide (r.state = .suspect) }
    else { r with absence := r.absence + 1 } := by
  unfold FaultRecord.judgeUnsighted
  rcases h with h | h | h <;> simp only [h, hm]

theorem FaultRecord.judgeUnsighted_kept (h : r.state = .acting ∨ r.state = .isolated) :
    r.judgeUnsighted config stamp = r := by
  unfold FaultRecord.judgeUnsighted
  rcases h with h | h <;> simp only [h]

end

/-- Settles O54: a candidate is a sighting of the record that follows it (`State.matchCandidate_sighted`), opens one with
the first free id where the list has room or gives some (`State.matchCandidate_opens`, `State.matchCandidate_replaces`), or is
dropped; an open record is judged by its state. -/
theorem faultListFollowsCandidates : Obligations.FaultListFollowsCandidates := by
  refine ⟨fun p number stamp s c hi => ?_, fun q p cs stamp r => ?_⟩
  · intro t fits opened
    refine ⟨(State.matchCandidate_kept p number stamp s c).pairs, fun before r after hs hb hr => ?_,
      fun hn room => State.matchCandidate_opens hi hn room,
      fun before r after hn full hs hb hr => State.matchCandidate_replaces hi hn full hs hb hr, fun hn full => ?_⟩
    · have sighted : t = _ := State.matchCandidate_sighted hs hb hr
      refine ⟨worstAfter r.cls c.cls r.worst c.ratio, ?_, fun h => worstAfter_other h _ _,
        fun a b ho hn => worstAfter_both ho hn RatioGroup.noConfusion,
        fun a b ho hn => worstAfter_both ho hn RatioGroup.noConfusion,
        fun a b ho hn => worstAfter_both ho hn RatioGroup.noConfusion, worstAfter_nothing, worstAfter_first,
        worstAfter_kept, fun changed => ?_, fun same => ?_⟩
      · rw [sighted]
        exact State.setPairFlagIf_faults ..
      · rw [sighted, decide_eq_true changed]
        exact State.setPairFlag_get_same _ p .faultChange
      · rw [sighted, decide_eq_false (not_not.mpr same)]
        rfl
    · have dropped : t = s.setPairFlag p .faultListFull :=
        (State.matchCandidate_unmatched fun x hx => (hn x hx).1).trans
          (State.openOrDrop_dropped full fun x hx => (hn x hx).2)
      rw [dropped]
      exact ⟨rfl, rfl, State.setPairFlag_get_same _ p .faultListFull⟩
  · intro history seen
    refine ⟨FaultRecord.judge_other, fun hp hm hc => ?_, fun hp hm hc => ?_⟩
    · have judged (ho : r.state ≠ .cleared) := FaultRecord.judge_sighted (q := q) (stamp := stamp) hp ho hm hc
      refine ⟨fun hs => ?_, fun hs => ?_, fun hs => ?_⟩
      · exact (judged (by simp [hs])).trans (FaultRecord.judgeSighted_suspect hs)
      · exact (judged (by simp [hs])).trans (FaultRecord.judgeSighted_isolated hs)
      · refine (judged ?_).trans (FaultRecord.judgeSighted_else hs)
        rcases hs with hs | hs | hs <;> simp [hs]
    · have judged (ho : r.state ≠ .cleared) := FaultRecord.judge_unsighted (q := q) (stamp := stamp) hp ho hm hc
      refine ⟨fun hs => ?_, fun hs => ?_⟩
      · refine (judged ?_).trans (FaultRecord.judgeUnsighted_counts hm hs)
        rcases hs with hs | hs | hs <;> simp [hs]
      · refine (judged ?_).trans (FaultRecord.judgeUnsighted_kept hs)
        rcases hs with hs | hs <;> simp [hs]

end Sys2Proof.Machine
end

section
/-! LEARN BASELINE and ABORT LEARN (R104, R105, R110): which run a request names, and what their owners answer. -/

namespace Sys2Proof.Machine

/-! ### LEARN BASELINE (R104) -/

/-- The mode byte of a run names a mode where it is 0 or 1. -/
theorem learnModeOf_named {mode : Byte} (h : mode.toNat ≤ 1) :
    learnModeOf mode = some (if mode = 1 then .unconditional else .conditional) := by
  have coded : mode = 0 ∨ mode = 1 := by bv_omega
  rcases coded with rfl | rfl <;> rfl

theorem learnModeOf_unnamed {mode : Byte} (h : 1 < mode.toNat) : learnModeOf mode = none := by
  unfold learnModeOf
  split
  · omega
  · omega
  · rfl

/-- A pair once a run has started: every learn sum and count at 0, and fault evaluation held by an UNCONDITIONAL one. -/
def PairState.learnStarted (q : PairState) (m : LearnMode) (target : Nat) : PairState :=
  { q with
    learn := .active m target 0 0
    records := q.records.map RepeaterRecord.clearLearn
    hold := q.hold || decide (m = .unconditional) }

/-- The mode byte 1 is the one that holds fault evaluation. -/
theorem PairState.learnStarted_byte (q : PairState) (mode : Byte) (target : Nat) :
    q.learnStarted (if mode = 1 then .unconditional else .conditional) target = { q with
      learn := .active (if mode = 1 then .unconditional else .conditional) target 0 0
      records := q.records.map RepeaterRecord.clearLearn
      hold := q.hold || mode == 1 } := by
  have held : decide ((if mode = 1 then LearnMode.unconditional else .conditional) = .unconditional) = (mode == 1) := by
    by_cases h : mode = 1
    · rw [if_pos h, h]
      rfl
    · rw [if_neg h]
      exact (beq_false_of_ne h).symm
  rw [PairState.learnStarted, held]

/-- The target counts that a run may have, as the owner reads them. -/
theorem learnTarget_refused_iff {target : Byte} :
    (target.toNat ≠ 4 ∧ target.toNat ≠ 8 ∧ target.toNat ≠ 16) ↔ ¬(target = 4 ∨ target = 8 ∨ target = 16) := by
  bv_omega

section
variable {tag target mode : Byte} {p : Pair} {s t : State} {a : Answer}

theorem exec_learnBaseline (hs : s.Ready) (ho : ownLearnBaseline (pairByte p) target mode s = (t, a)) :
    exec (.learnBaseline tag (pairByte p) target mode) s = .next (t.replied 0xA5 tag (a.status.code :: a.data)) :=
  exec_answers (r := .learnBaseline (pairByte p) target mode) hs rfl rfl ho

theorem ownLearnBaseline_wrongState
    (h : ((s.pair p).role.name ≠ .holder ∧ (s.pair p).role.name ≠ .synthetic) ∨ (s.pair p).learn ≠ .idle) :
    ownLearnBaseline (pairByte p) target mode s = (s, .refused .wrongState) := by
  unfold ownLearnBaseline
  rw [withPair_pairByte]
  dsimp only
  split
  · rfl
  next hrole => exact if_pos (h.resolve_left hrole)

/-- In HOLDER or LOCAL with no run, the target count is examined and then the mode. -/
theorem ownLearnBaseline_allowed (hr : (s.pair p).role.name = .holder ∨ (s.pair p).role.name = .synthetic)
    (hi : (s.pair p).learn = .idle) :
    ownLearnBaseline (pairByte p) target mode s
      = if target = 4 ∨ target = 8 ∨ target = 16 then
          (learnModeOf mode).elim (s, .refused .badValue) fun m =>
            (s.setPair p ((s.pair p).learnStarted m target.toNat), .ok (sweepBytes (s.pair p).sweepNumber))
        else (s, .refused .badValue) := by
  have allowed : ¬((s.pair p).role.name ≠ .holder ∧ (s.pair p).role.name ≠ .synthetic) := by tauto
  unfold ownLearnBaseline
  rw [withPair_pairByte]
  dsimp only
  rw [if_neg allowed, if_neg (not_not.mpr hi)]
  by_cases ht : target = 4 ∨ target = 8 ∨ target = 16
  · rw [if_neg fun h => learnTarget_refused_iff.mp h ht, if_pos ht]
    cases learnModeOf mode <;> rfl
  · rw [if_pos (learnTarget_refused_iff.mpr ht), if_neg ht]

theorem ownLearnBaseline_starts (hr : (s.pair p).role.name = .holder ∨ (s.pair p).role.name = .synthetic)
    (hi : (s.pair p).learn = .idle) (h : (target = 4 ∨ target = 8 ∨ target = 16) ∧ mode.toNat ≤ 1) :
    ownLearnBaseline (pairByte p) target mode s
      = (s.setPair p ((s.pair p).learnStarted (if mode = 1 then .unconditional else .conditional) target.toNat),
        .ok (sweepBytes (s.pair p).sweepNumber)) := by
  obtain ⟨ht, hm⟩ := h
  rw [ownLearnBaseline_allowed hr hi, if_pos ht, learnModeOf_named hm, Option.elim_some]

theorem ownLearnBaseline_badValue (hr : (s.pair p).role.name = .holder ∨ (s.pair p).role.name = .synthetic)
    (hi : (s.pair p).learn = .idle) (h : ¬((target = 4 ∨ target = 8 ∨ target = 16) ∧ mode.toNat ≤ 1)) :
    ownLearnBaseline (pairByte p) target mode s = (s, .refused .badValue) := by
  rw [ownLearnBaseline_allowed hr hi]
  by_cases ht : target = 4 ∨ target = 8 ∨ target = 16
  · have unnamed : 1 < mode.toNat := Nat.lt_of_not_le fun hm => h ⟨ht, hm⟩
    rw [if_pos ht, learnModeOf_unnamed unnamed, Option.elim_none]
  · exact if_neg ht

end

/-! ### ABORT LEARN (R105, R110) -/

section
variable {tag : Byte} {p : Pair} {s t : State} {a : Answer}

theorem exec_abortLearn (hs : s.Ready) (ho : ownAbortLearn (pairByte p) s = (t, a)) :
    exec (.abortLearn tag (pairByte p)) s = .next (t.replied 0xA6 tag (a.status.code :: a.data)) :=
  exec_answers (r := .abortLearn (pairByte p)) hs rfl rfl ho

theorem ownAbortLearn_idle (h : (s.pair p).learn = .idle) :
    ownAbortLearn (pairByte p) s = (s, .refused .wrongState) := by
  unfold ownAbortLearn
  rw [withPair_pairByte]
  exact if_pos h

theorem ownAbortLearn_active (h : (s.pair p).learn ≠ .idle) :
    ownAbortLearn (pairByte p) s = (s.abandonLearning p .host, .ok []) := by
  unfold ownAbortLearn
  rw [withPair_pairByte]
  exact if_neg h

end

/-- Settles O33: the owner of LEARN BASELINE examines role and run, then target count and mode, and starts the run
(`ownLearnBaseline_allowed`); the owner of ABORT LEARN abandons an ACTIVE run (`State.abandonLearning_cases`). -/
theorem learnBaselineAndAbort : Obligations.LearnBaselineAndAbort := by
  intro tag target mode p s hs
  refine ⟨fun h => exec_learnBaseline hs (ownLearnBaseline_wrongState h), fun hr hi => ?_,
    fun hi => exec_abortLearn hs (ownAbortLearn_idle hi), fun ha => ?_⟩
  · split
    next h =>
      have started := exec_learnBaseline (tag := tag) hs (ownLearnBaseline_starts hr hi h)
      rwa [PairState.learnStarted_byte] at started
    next h => exact exec_learnBaseline hs (ownLearnBaseline_badValue hr hi h)
  · obtain ⟨hi, _⟩ | ⟨_, abandoned⟩ := s.abandonLearning_cases p .host
    · exact absurd hi ha
    · have owned := ownAbortLearn_active ha
      rw [abandoned] at owned
      exact exec_abortLearn hs owned

end Sys2Proof.Machine
end

section
/-! The supervisory queue and the tone fields as their invariants read them (R6, R113, R131, R161): the pairs with an exchange
in flight, the roles that carry one, and the pairs that are to send nothing; and what an operation may write of them. -/

namespace Sys2Proof.Machine

/-! ### What the invariants read -/

/-- The pairs of the exchanges in flight, one for each. -/
def flightPairs (es : List QueueEntry) : List Pair := (es.filter QueueEntry.isInFlight).map (·.pair)

/-- A pair whose role sends nothing has no tone (R6). -/
def PairState.tonesFit (q : PairState) : Prop := silentRole q.role.name = true → q.tone = ⟨.free, []⟩

theorem supervisoryInv_iff {s : State} : SupervisoryInv s ↔
    s.queue.length ≤ 8 ∧ (flightPairs s.queue).length ≤ 1
      ∧ ∀ p ∈ flightPairs s.queue, exchangeRole (s.pair p).role = true := by
  have named : (∀ p ∈ flightPairs s.queue, exchangeRole (s.pair p).role = true)
      ↔ ∀ e ∈ s.queue, e.isInFlight = true → exchangeRole (s.pair e.pair).role = true := by
    simp only [flightPairs, List.mem_map, List.mem_filter]
    exact ⟨fun h e he hf => h _ ⟨e, ⟨he, hf⟩, rfl⟩, fun h p ⟨e, ⟨he, hf⟩, hp⟩ => hp ▸ h e he hf⟩
  rw [named]
  unfold flightPairs
  rw [List.length_map]
  exact ⟨fun ⟨room, single, held⟩ => ⟨room, single, held⟩, fun ⟨room, single, held⟩ => ⟨room, single, held⟩⟩

/-- Both invariants of the tone channel. The one on the queue is to be kept without the one on the tones, which therefore
stands under a hypothesis: one walk through the operations serves both. -/
structure ChannelInv (withTones : Prop) (s : State) : Prop where
  queue : SupervisoryInv s
  tones : withTones → ToneInv s

/-! ### The queue -/

theorem flightPairs_append (es fs : List QueueEntry) : flightPairs (es ++ fs) = flightPairs es ++ flightPairs fs := by
  simp [flightPairs]

theorem flightPairs_of_none {es : List QueueEntry} (h : ∀ e ∈ es, e.isInFlight = false) : flightPairs es = [] := by
  unfold flightPairs
  rw [List.filter_eq_nil_iff.mpr fun e he => by simp [h e he]]
  rfl

theorem flightPairs_single {es : List QueueEntry} {e : QueueEntry} (he : e.isInFlight = true) :
    flightPairs (e :: es) = e.pair :: flightPairs es := by
  unfold flightPairs
  rw [List.filter_cons_of_pos he, List.map_cons]

/-- The queue stays within its room, and what is in flight was in flight before. -/
structure QueueKept (es fs : List QueueEntry) : Prop where
  room : es.length ≤ 8 → fs.length ≤ 8
  flights : (flightPairs fs).Sublist (flightPairs es)

theorem QueueKept.refl (es : List QueueEntry) : QueueKept es es := ⟨id, .refl _⟩

theorem QueueKept.trans {es fs gs : List QueueEntry} (h : QueueKept es fs) (h' : QueueKept fs gs) : QueueKept es gs :=
  ⟨fun hl => h'.room (h.room hl), h'.flights.trans h.flights⟩

theorem QueueKept.sublist {es fs : List QueueEntry} (h : fs.Sublist es) : QueueKept es fs :=
  ⟨h.length_le.trans, (h.filter _).map _⟩

/-- Every entry changed, none of which takes off or lands. -/
theorem QueueKept.map {es : List QueueEntry} {f : QueueEntry → QueueEntry} (hf : ∀ e, (f e).isInFlight = e.isInFlight)
    (hp : ∀ e, (f e).pair = e.pair) : QueueKept es (es.map f) := by
  refine ⟨fun h => by simpa using h, (?_ : flightPairs (es.map f) = flightPairs es) ▸ .refl _⟩
  unfold flightPairs
  rw [List.filter_map, List.map_map, show QueueEntry.isInFlight ∘ f = QueueEntry.isInFlight from funext hf]
  exact List.map_congr_left fun e _ => hp e

/-- One entry changed, which does not take off. -/
theorem QueueKept.modFirst {es : List QueueEntry} {fits : QueueEntry → Bool} {f : QueueEntry → QueueEntry}
    (hf : ∀ e, fits e = true → (f e).isInFlight = true → e.isInFlight = true) (hp : ∀ e, (f e).pair = e.pair) :
    QueueKept es (modFirst fits f es) := by
  refine ⟨fun h => by simpa using h, ?_⟩
  induction es with
  | nil => exact .refl _
  | cons e es ih =>
    rw [Machine.modFirst]
    unfold flightPairs at ih ⊢
    split
    next hfit =>
      cases hn : (f e).isInFlight
      · rw [List.filter_cons_of_neg (by simp [hn])]
        exact ((List.sublist_cons_self e es).filter _).map _
      · rw [List.filter_cons_of_pos hn, List.filter_cons_of_pos (hf e hfit hn), List.map_cons, List.map_cons, hp]
    · simp only [List.filter_cons]
      split
      · exact ih.cons_cons _
      · exact ih

/-- A WAITING entry joins a queue that has room. -/
theorem QueueKept.enqueue {es : List QueueEntry} (hroom : es.length < 8) {e : QueueEntry} (he : e.isInFlight = false) :
    QueueKept es (es ++ [e]) := by
  have grounded : flightPairs (es ++ [e]) = flightPairs es := by
    rw [flightPairs_append, flightPairs_of_none (es := [e]) (by simpa using he), List.append_nil]
  exact ⟨fun _ => by rw [List.length_append]; exact hroom, grounded ▸ .refl _⟩

theorem QueueEntry.withPhase_pair (e : QueueEntry) (ph : Phase) : (e.withPhase ph).pair = e.pair := by
  unfold QueueEntry.withPhase
  split <;> rfl

theorem QueueEntry.withPhase_isInFlight (e : QueueEntry) (ph : Phase) : (e.withPhase ph).isInFlight = e.isInFlight := by
  unfold QueueEntry.withPhase
  split
  next h => simp [QueueEntry.isInFlight, h]
  · rfl

/-- The first exchange in flight leaves the queue, or lands in it (R113, R128). -/
theorem flightPairs_dropFirst (es : List QueueEntry) :
    flightPairs (dropFirst QueueEntry.isInFlight es) = (flightPairs es).tail := by
  induction es with
  | nil => rfl
  | cons e es ih =>
    rw [dropFirst]
    unfold flightPairs at ih ⊢
    split
    next he => rw [List.filter_cons_of_pos he, List.map_cons, List.tail_cons]
    next he => rw [List.filter_cons_of_neg he, List.filter_cons_of_neg he, ih]

theorem flightPairs_landed {f : QueueEntry → QueueEntry} (hf : ∀ e, (f e).isInFlight = false) (es : List QueueEntry) :
    flightPairs (modFirst QueueEntry.isInFlight f es) = (flightPairs es).tail := by
  induction es with
  | nil => rfl
  | cons e es ih =>
    rw [modFirst]
    unfold flightPairs at ih ⊢
    split
    next he =>
      rw [List.filter_cons_of_neg (by simp [hf]), List.filter_cons_of_pos he, List.map_cons, List.tail_cons]
    next he => rw [List.filter_cons_of_neg he, List.filter_cons_of_neg he, ih]

theorem State.inFlightOn_iff {s : State} {p : Pair} : s.inFlightOn p = true ↔ p ∈ flightPairs s.queue := by
  simp [State.inFlightOn, flightPairs, and_assoc]

theorem State.flight_none_iff {s : State} : s.flight = none ↔ flightPairs s.queue = [] := by
  simp [State.flight, flightPairs]

/-! ### One pair's update -/

/-- An update of a pair after which it still may carry an exchange, and still sends nothing where its role demands it. -/
structure DriveKept (q q' : PairState) : Prop where
  exchange : exchangeRole q.role = true → exchangeRole q'.role = true
  tones : q.tonesFit → q'.tonesFit

theorem DriveKept.refl (q : PairState) : DriveKept q q := ⟨id, id⟩

theorem DriveKept.trans {q q' q'' : PairState} (h : DriveKept q q') (h' : DriveKept q' q'') : DriveKept q q'' :=
  ⟨fun hx => h'.exchange (h.exchange hx), fun ht => h'.tones (h.tones ht)⟩

/-- The role enters by its name, and by the guard of a yield. -/
theorem exchangeRole_of_name {r r' : Role} (hn : r'.name = r.name) (hy : r.name = .yielding → r' = r) :
    exchangeRole r' = exchangeRole r := by
  cases r <;> cases r' <;> simp_all [Role.name, exchangeRole]

theorem DriveKept.of_name {q q' : PairState} (hn : q'.role.name = q.role.name)
    (hy : q.role.name = .yielding → q'.role = q.role) (ht : q.tone = ⟨.free, []⟩ → q'.tone = ⟨.free, []⟩) :
    DriveKept q q' := by
  refine ⟨fun hx => (exchangeRole_of_name hn hy).trans hx, fun h hs => ht (h ?_)⟩
  rwa [hn] at hs

theorem DriveKept.of_same {q q' : PairState} (hr : q'.role = q.role) (ht : q'.tone = q.tone) : DriveKept q q' :=
  .of_name (congrArg Role.name hr) (fun _ => hr) fun h => ht.trans h

/-- A pair that may carry an exchange may send. -/
theorem silentRole_of_exchange {r : Role} (h : exchangeRole r = true) : silentRole r.name = false := by
  cases r <;> simp [exchangeRole, Role.name, silentRole] at h ⊢

/-- The tone field of a pair that may send is written at will (R6). -/
theorem DriveKept.of_sender {q q' : PairState} (hr : q'.role = q.role) (h : silentRole q.role.name = false) :
    DriveKept q q' := by
  refine ⟨fun hx => by rwa [hr], fun _ hs => ?_⟩
  rw [hr, h] at hs
  cases hs

/-! ### Operations that keep the channel -/

/-- No exchange takes off, and every pair is kept; the pair that another rule judges is left out. -/
structure ChannelKeptBut (x : Option Pair) (s t : State) : Prop where
  queue : QueueKept s.queue t.queue
  exchange : ∀ p : Pair, x ≠ some p → p ∈ flightPairs t.queue → exchangeRole (s.pair p).role = true →
    exchangeRole (t.pair p).role = true
  tones : ∀ p : Pair, x ≠ some p → (s.pair p).tonesFit → (t.pair p).tonesFit

/-- No exchange takes off, the pairs of those in flight may go on to carry them, and no silent pair gets a tone. -/
abbrev ChannelKept (s t : State) : Prop := ChannelKeptBut none s t

theorem ChannelKeptBut.refl (x : Option Pair) (s : State) : ChannelKeptBut x s s :=
  ⟨.refl _, fun _ _ _ => id, fun _ _ => id⟩

theorem ChannelKeptBut.trans {x : Option Pair} {s t u : State} (h : ChannelKeptBut x s t) (h' : ChannelKeptBut x t u) :
    ChannelKeptBut x s u where
  queue := h.queue.trans h'.queue
  exchange p hp hu hs := h'.exchange p hp hu (h.exchange p hp (h'.queue.flights.subset hu) hs)
  tones p hp ht := h'.tones p hp (h.tones p hp ht)

/-- Leaving a pair out asks for less. -/
theorem ChannelKept.but {s t : State} (h : ChannelKept s t) (x : Option Pair) : ChannelKeptBut x s t :=
  ⟨h.queue, fun p _ => h.exchange p nofun, fun p _ => h.tones p nofun⟩

/-- The pair that was left out has been judged. -/
theorem ChannelKeptBut.whole {p : Pair} {s t : State} (h : ChannelKeptBut (some p) s t)
    (hx : p ∈ flightPairs t.queue → exchangeRole (s.pair p).role = true → exchangeRole (t.pair p).role = true)
    (ht : (s.pair p).tonesFit → (t.pair p).tonesFit) : ChannelKept s t := by
  refine ⟨h.queue, fun p' _ => ?_, fun p' _ => ?_⟩
  · by_cases hp : p = p'
    · exact hp ▸ hx
    · exact h.exchange p' fun e => hp (Option.some.inj e)
  · by_cases hp : p = p'
    · exact hp ▸ ht
    · exact h.tones p' fun e => hp (Option.some.inj e)

theorem ChannelInv.kept {b : Prop} {s t : State} (h : ChannelInv b s) (hk : ChannelKept s t) : ChannelInv b t := by
  obtain ⟨room, single, held⟩ := supervisoryInv_iff.mp h.queue
  refine ⟨supervisoryInv_iff.mpr ⟨hk.queue.room room, hk.queue.flights.length_le.trans single, fun p hp => ?_⟩,
    fun hb p => hk.tones p nofun (h.tones hb p)⟩
  exact hk.exchange p nofun hp (held p (hk.queue.flights.subset hp))

theorem ChannelKept.of_pairs {s t : State} (hq : QueueKept s.queue t.queue)
    (hp : ∀ p : Pair, DriveKept (s.pair p) (t.pair p)) : ChannelKept s t :=
  ⟨hq, fun p _ _ => (hp p).exchange, fun p _ => (hp p).tones⟩

/-- One pair written, and whatever the channel does not read. -/
theorem ChannelKept.write {s t : State} {p : Pair} {q : PairState} (hp : t.pairs = s.pairs.set p q)
    (h : DriveKept (s.pair p) q) (hq : t.queue = s.queue) : ChannelKept s t := by
  refine .of_pairs (hq ▸ .refl _) fun p' => ?_
  unfold State.pair
  rw [hp]
  exact State.forall_pair_setPair DriveKept.refl h p'

theorem ChannelKept.setPair {s : State} {p : Pair} {q : PairState} (h : DriveKept (s.pair p) q) :
    ChannelKept s (s.setPair p q) := .write rfl h rfl

theorem ChannelKept.modPair {s : State} {p : Pair} {f : PairState → PairState}
    (h : DriveKept (s.pair p) (f (s.pair p))) : ChannelKept s (s.modPair p f) := .setPair h

/-- The pair that is left out is written at will. -/
theorem ChannelKeptBut.modOwn (s : State) (p : Pair) (f : PairState → PairState) :
    ChannelKeptBut (some p) s (s.modPair p f) := by
  have other (p' : Pair) (hp : some p ≠ some p') : (s.modPair p f).pair p' = s.pair p' :=
    State.pair_modPair_other s f fun e => hp (congrArg some e.symm)
  exact ⟨.refl _, fun p' hp _ => by rw [other p' hp]; exact id, fun p' hp => by rw [other p' hp]; exact id⟩

theorem ChannelKeptBut.setRole (s : State) (p : Pair) (r : Role) (c : RoleCause) :
    ChannelKeptBut (some p) s (s.setRole p r c) :=
  let entered := ChannelKeptBut.modOwn s p fun q =>
    { q with role := r, lastRole := some ⟨q.role.name, r.name, c, s.now⟩ }
  ⟨entered.queue, entered.exchange, entered.tones⟩

theorem BookKept.channel {s t : State} (h : BookKept s t) (hq : QueueKept s.queue t.queue) : ChannelKept s t :=
  .of_pairs hq fun p => h.pair p ▸ .refl _

theorem BlocksAgree.channel {s t : State} (h : BlocksAgree s t) (hq : QueueKept s.queue t.queue) : ChannelKept s t :=
  .of_pairs hq fun p => by unfold State.pair; rw [h.pairs]; exact .refl _

theorem QueueKept.foldl {α : Type} {f : State → α → State} (hf : ∀ s x, QueueKept s.queue (f s x).queue) (xs : List α)
    (s : State) : QueueKept s.queue (xs.foldl f s).queue := by
  induction xs generalizing s with
  | nil => exact .refl _
  | cons x xs ih => exact (hf s x).trans (ih _)

theorem ChannelKept.foldl {α : Type} {f : State → α → State} (hf : ∀ s x, ChannelKept s (f s x)) (xs : List α)
    (s : State) : ChannelKept s (xs.foldl f s) := by
  induction xs generalizing s with
  | nil => exact .refl _ s
  | cons x xs ih => exact (hf s x).trans (ih _)

end Sys2Proof.Machine
end

section
/-! What each operation of the blocks does to the supervisory queue and the tone fields (R113 to R131): entries enqueued,
delivered and removed, sweeps, tone fields, and the quiet guard of a yield. -/

namespace Sys2Proof.Machine

/-! ### Entries and sequences (R115, R128, R131, R141) -/

/-- An update of a fault record, or a flag, leaves the queue as it is. -/
theorem QueueKept.of_eq {es fs : List QueueEntry} (h : fs = es) : QueueKept es fs := h ▸ .refl es

theorem State.setPairFlagIf_queue (s : State) (b : Bool) (p : Pair) (k : PairFlag) :
    (s.setPairFlagIf b p k).queue = s.queue := by
  unfold State.setPairFlagIf
  split <;> rfl

theorem State.enqueueStep_queueKept (s : State) (r : FaultRecord) (c : Command) (n : Nat) (f : CommandStep) :
    QueueKept s.queue (s.enqueueStep r c n f).queue := by
  rcases s.enqueueStep_cases r c n f with ⟨hroom, h⟩ | ⟨_, h⟩ <;> rw [h]
  · exact .enqueue hroom rfl
  · exact .refl _

theorem State.startSequence_queueKept (s : State) (r : FaultRecord) (a : Action) (o : ActionOrigin) (w : Option Half) :
    QueueKept s.queue (s.startSequence r a o w).queue := State.enqueueStep_queueKept (s.becomeActing r a o w) ..

theorem State.queryDone_queueKept (s : State) (r : FaultRecord) (a : ActionPart) (reply : List Byte) :
    QueueKept s.queue (s.queryDone r a reply).queue := by
  unfold State.queryDone
  dsimp only
  split
  · split
    · exact State.enqueueStep_queueKept (s.storeStatus r (statusOf reply)) ..
    · exact .refl _
  · exact .refl _

theorem State.commandDone_queue (s : State) (r : FaultRecord) (a : ActionPart) :
    (s.commandDone r a).queue = s.queue := by
  unfold State.commandDone
  split <;> rfl

theorem State.deliver_queueKept (s : State) (id : Nat) (x : ExchangeResult) (reply : List Byte) :
    QueueKept s.queue (s.deliver id x reply).queue := by
  unfold State.deliver
  split
  · exact .refl _
  · split
    · split
      · exact s.queryDone_queueKept ..
      · exact .of_eq (s.commandDone_queue ..)
      · exact .refl _
      · exact .refl _
      · exact .refl _
    · exact .refl _

theorem State.verifyPass_queue (ks : List Known) (s : State) (r : FaultRecord) :
    (State.verifyPass ks s r).queue = s.queue := by
  unfold State.verifyPass
  split
  · split
    · unfold State.verify
      split
      · rfl
      · split
        · rfl
        · dsimp only
          split <;> rfl
        · rfl
    · rfl
  · rfl

theorem State.waitingPass_queueKept (s : State) (r : FaultRecord) : QueueKept s.queue (s.waitingPass r).queue := by
  unfold State.waitingPass
  split
  · split
    · exact s.enqueueStep_queueKept ..
    · exact .refl _
  · exact .refl _

theorem State.autoStart_queueKept (s : State) (id : Nat) : QueueKept s.queue (s.autoStart id).queue := by
  unfold State.autoStart
  split
  · exact .refl _
  · dsimp only
    split
    · exact s.startSequence_queueKept ..
    · exact .refl _

/-- A role loss ends entries that wait, and touches none in flight (R131). -/
theorem queueAfterRoleLoss_kept (p : Pair) (es : List QueueEntry) : QueueKept es (queueAfterRoleLoss p es) := by
  refine ⟨(List.length_filterMap_le _ _).trans, ?_⟩
  unfold queueAfterRoleLoss
  induction es with
  | nil => exact .refl _
  | cons e es ih =>
    have stays : (flightPairs es).Sublist (flightPairs (e :: es)) := ((List.sublist_cons_self e es).filter _).map _
    rw [List.filterMap_cons]
    unfold flightPairs at ih stays ⊢
    split
    · exact ih.trans stays
    next e' he =>
      split at he
      · split at he <;> cases he
        rw [List.filter_cons_of_neg (by simp [QueueEntry.isInFlight])]
        exact ih.trans stays
      · cases he
        simp only [List.filter_cons]
        split
        · exact ih.cons_cons _
        · exact ih

theorem State.loseRole_channel (s : State) (p : Pair) : ChannelKept s (s.loseRole p) :=
  (s.loseRole_kept p).channel (State.loseRole_queue s p ▸ queueAfterRoleLoss_kept p s.queue)

/-- The Fault Localizer does not know the queue. -/
theorem State.localize_queue (s : State) (p : Pair) (ks : List Known) (number : BitVec 48) (stamp : LineTime) :
    (s.localize p ks number stamp).1.queue = s.queue := by
  have matched (s : State) (c : Candidate) : (State.matchCandidate p number stamp s c).queue = s.queue := by
    unfold State.matchCandidate State.openOrDrop
    split
    · exact State.setPairFlagIf_queue ..
    · split
      · rfl
      · split <;> rfl
  have masked (s : State) : (s.maskFaults p).queue = s.queue := State.setPairFlagIf_queue ..
  have judged (s : State) (cs : List Candidate) : (s.judgeFaults p cs stamp).queue = s.queue :=
    State.setPairFlagIf_queue ..
  unfold State.localize
  dsimp only
  rw [masked, judged, masked]
  exact State.foldl_keeps (part := State.queue) matched _ s

/-! ### Sweeps and learning (R66, R69, R71, R106 to R110) -/

theorem State.planSweep_channel (s : State) (await : Bool) (p : Pair) : ChannelKept s (s.planSweep await p) := by
  rcases s.planSweep_cases await p with h | ⟨_, _, h⟩ <;> rw [h]
  · exact .refl _ s
  · exact .setPair (.of_same rfl rfl)

theorem State.arbitrate_channel (s : State) : ChannelKept s s.arbitrate := by
  rcases s.arbitrate_cases with h | ⟨p, w, _, _, _, h⟩ <;> rw [h]
  · exact .refl _ s
  · exact .write (q := { s.pair p with sweep := some { w with stage := .inBank } }) rfl (.of_same rfl rfl) rfl

theorem State.considerSweep_channel (s : State) (p : Pair) : ChannelKept s (s.considerSweep p) :=
  (s.planSweep_channel false p).trans (State.arbitrate_channel _)

theorem State.replan_channel (s : State) (p : Pair) : ChannelKept s (s.replan p) :=
  (s.planSweep_channel true p).trans (State.arbitrate_channel _)

theorem State.abandonSweep_channel (s : State) (p : Pair) : ChannelKept s (s.abandonSweep p) := by
  rcases s.abandonSweep_cases p with h | ⟨_, _, _, h⟩ <;> rw [h]
  · exact .refl _ s
  · rcases s.abortPass_cases p with ⟨_, h⟩ | ⟨_, h⟩ <;> rw [h]
    · exact .modPair (.of_same rfl rfl)
    · exact .write (q := { s.pair p with sweep := none }) rfl (.of_same rfl rfl) rfl

theorem State.yieldSweep_channel (s : State) (p : Pair) (m : YieldMode) : ChannelKept s (s.yieldSweep p m) := by
  unfold State.yieldSweep State.abandonUnlessRunning
  split
  · exact s.abandonSweep_channel p
  · split
    · exact .refl _ s
    · exact s.abandonSweep_channel p

theorem State.abandonLearning_channel (s : State) (p : Pair) (c : LearnCause) :
    ChannelKept s (s.abandonLearning p c) := by
  rcases s.abandonLearning_cases p c with ⟨_, h⟩ | ⟨_, h⟩ <;> rw [h]
  · exact .refl _ s
  · exact .write (q := { s.pair p with
      records := (s.pair p).records.map RepeaterRecord.clearLearn, hold := false
      lastLearn := .abandoned c (s.pair p).sweepNumber s.now, learn := .idle }) rfl (.of_same rfl rfl) rfl

theorem State.learningStage_channel (s : State) (p : Pair) (ms : List WindowMeasurement) (number : BitVec 48)
    (stamp : LineTime) : ChannelKept s (s.learningStage p ms number stamp) := by
  unfold State.learningStage State.countSweep
  split
  · exact .refl _ s
  next mode target counted suspended _ =>
    split
    · have added : ChannelKept s (s.modPair p fun q => { q with learn := .active mode target counted (suspended + 1) }) :=
        .modPair (.of_same rfl rfl)
      dsimp only
      split
      · exact added.trans (State.abandonLearning_channel ..)
      · exact added
    · have added : ChannelKept s (s.modPair p fun q => { q with
          records := q.records.map (·.learn q.config.presence ms)
          learn := .active mode target (counted + 1) suspended }) := .modPair (.of_same rfl rfl)
      have finished (s : State) : ChannelKept s (s.finishLearning p target number stamp) :=
        (ChannelKept.modPair (.of_same rfl rfl)).trans ((State.setPairFlag_kept ..).channel (.refl _))
      dsimp only
      split
      · exact added.trans (finished _)
      · exact added

/-! ### The tone fields (R6, R7) -/

/-- The exchange in flight stays on its pair, in the air or landed. -/
theorem State.modFlight_channel (s : State) {f : QueueEntry → QueueEntry} (hp : ∀ e, (f e).pair = e.pair) :
    ChannelKept s (s.modFlight f) := (s.modFlight_kept f).channel (.modFirst (fun _ flies _ => flies) hp)

/-- An exchange goes from phase to phase. -/
theorem State.withPhase_channel (s : State) (ph : Phase) : ChannelKept s (s.modFlight (·.withPhase ph)) :=
  s.modFlight_channel fun e => e.withPhase_pair ph

/-- A field that is let go where nobody waits is free (R7). -/
theorem State.releaseTone_channel (s : State) (p : Pair) : ChannelKept s (s.releaseTone p) := by
  have granted (t : ToneField) (h : (s.pair p).tone.waiting ≠ []) :
      ChannelKept s (s.modPair p fun q => { q with tone := t }) :=
    .modPair ⟨id, fun fit hs => absurd (congrArg ToneField.waiting (fit hs)) h⟩
  rcases s.releaseTone_cases p with ⟨_, h⟩ | ⟨rest, hw, h⟩ | ⟨rest, hw, h⟩ <;> rw [h]
  · exact .modPair ⟨id, fun _ _ => rfl⟩
  · exact granted _ (by simp [hw])
  · exact (granted _ (by simp [hw])).trans (State.withPhase_channel _ _)

section
variable {s : State} {p : Pair} (h : silentRole (s.pair p).role.name = false)
include h

theorem State.orderKeep_channel : ChannelKept s (s.orderKeep p) := by
  rw [State.orderKeep_eq]
  exact .modPair (.of_sender rfl h)

theorem State.askTone_channel : ChannelKept s (s.askTone p) := by
  rcases s.askTone_cases p with ⟨_, e⟩ | ⟨_, e⟩ <;> rw [e]
  · exact (ChannelKept.modPair (.of_sender rfl h)).trans (State.withPhase_channel _ _)
  · exact (ChannelKept.modPair (.of_sender rfl h)).trans (State.withPhase_channel _ _)

end

/-! ### The next start (R117) -/

/-- What an entry may start on: a HOLDER (R117). -/
theorem State.eligible_holder {s : State} {e : QueueEntry} (h : s.eligible e = true) :
    (s.pair e.pair).role.name = .holder := by
  simp only [State.eligible, Bool.and_eq_true, decide_eq_true_eq] at h
  exact h.1.2

theorem Role.name_eq_holder {r : Role} (h : r.name = .holder) :
    exchangeRole r = true ∧ silentRole r.name = false := by
  cases r <;> simp [Role.name, exchangeRole, silentRole] at h ⊢

/-- The one entry that takes off. -/
theorem flightPairs_started {s : State} {e : QueueEntry} (hf : s.flight = none) (he : s.queue.find? s.eligible = some e)
    (c : QueueEntry → Captured) : flightPairs (modFirst s.eligible (fun e => e.start (c e)) s.queue) = [e.pair] := by
  obtain ⟨fits, before, after, hq, hb⟩ := List.find?_eq_some_iff_append.mp he
  have grounded : flightPairs before ++ flightPairs (e :: after) = [] := by
    rw [← flightPairs_append, ← hq]
    exact State.flight_none_iff.mp hf
  obtain ⟨hbefore, hrest⟩ := List.append_eq_nil_iff.mp grounded
  have hafter : flightPairs after = [] := by
    rw [← List.singleton_append, flightPairs_append] at hrest
    exact (List.append_eq_nil_iff.mp hrest).2
  rw [hq, modFirst_of_split _ after (fun y hy => by simpa using hb y hy) fits, flightPairs_append, hbefore,
    flightPairs_single rfl, hafter]
  rfl

theorem ChannelInv.startNext {b : Prop} {s : State} (h : ChannelInv b s) : ChannelInv b s.startNext := by
  rcases s.startNext_cases with e | ⟨e, hf, he, eq⟩
  · rwa [e]
  · rw [eq]
    have holder := State.eligible_holder (List.find?_some he)
    have started := flightPairs_started hf he fun e => (s.pair e.pair).capture e.index
    obtain ⟨room, _, _⟩ := supervisoryInv_iff.mp h.queue
    refine ChannelInv.kept (s := { s with queue := modFirst s.eligible _ s.queue })
      ⟨supervisoryInv_iff.mpr ⟨?_, ?_, ?_⟩, ?_⟩ (State.askTone_channel (Role.name_eq_holder holder).2)
    · exact (length_modFirst ..).trans_le room
    · exact started ▸ Nat.le_refl 1
    · intro p hp
      rw [started, List.mem_singleton] at hp
      exact hp ▸ (Role.name_eq_holder holder).1
    · exact h.tones

/-! ### The quiet guard (R161, R162) -/

/-- The guard of a yield: it waits for the exchange where the pair has one in flight that its role has carried. -/
theorem ChannelKeptBut.setGuard {p : Pair} {s t : State} (h : ChannelKeptBut (some p) s t) (m : YieldMode) (pass : Bool)
    {exchange : Bool} (hx : p ∈ flightPairs t.queue → exchangeRole (s.pair p).role = true → exchange = true) :
    ChannelKept s (t.setGuard p m pass exchange) := by
  rcases t.setGuard_cases p m pass exchange with ⟨_, e⟩ | ⟨_, off, e⟩ <;> rw [e]
  · refine (h.trans (.modOwn t p _)).whole (fun hp hs => ?_) fun _ hs => ?_
    · rw [State.pair_modPair_same]
      exact hx hp hs
    · rw [State.pair_modPair_same] at hs
      cases hs
  · have ended : ChannelKeptBut (some p) s (t.finishYield p) :=
      ((h.trans (.setRole t p .listen .roleYielded)).trans (.modOwn _ p PairState.silence)).trans
        ((State.loseRole_channel _ p).but _)
    refine ended.whole (fun hp hs => ?_) fun _ _ => ?_
    · rw [State.finishYield, State.loseRole_queue] at hp
      have flies := hx ((queueAfterRoleLoss_kept p _).flights.subset hp) hs
      rw [off] at flies
      cases flies
    · rw [State.pair_finishYield_same]

theorem State.reportLeftBank_channel (s : State) (p : Pair) : ChannelKept s (s.reportLeftBank p) := by
  unfold State.reportLeftBank
  split
  next m x hr => exact (ChannelKeptBut.refl _ s).setGuard m false fun _ hs => by rwa [hr] at hs
  · exact .refl _ s

/-- The report of an exchange's end finds none in flight (R128, R162). -/
theorem State.reportExchangeEnd_channel {s : State} (h : flightPairs s.queue = []) (p : Pair) :
    ChannelKept s (s.reportExchangeEnd p) := by
  unfold State.reportExchangeEnd
  split
  next m pass _ => exact (ChannelKeptBut.refl _ s).setGuard m pass fun hp => by rw [h] at hp; cases hp
  · exact .refl _ s

theorem State.enterYielding_channel (s : State) (p : Pair) (m : YieldMode) (c : RoleCause) :
    ChannelKept s (s.enterYielding p m c) := by
  have begun : ChannelKeptBut (some p) s (s.yieldBegun p m c) :=
    ((ChannelKeptBut.setRole s p (.yielding m false false) c).trans ((State.yieldSweep_channel _ p m).but _)).trans
      ((State.abandonLearning_channel _ p .role).but _)
  rw [State.enterYielding_eq]
  exact (begun.setGuard m _ fun hp _ => State.inFlightOn_iff.mpr hp).trans (State.arbitrate_channel _)

/-! ### The end of a mode and of a claim (R15, R16, R157) -/

theorem State.leaveMode_channel (s : State) (p : Pair) : ChannelKept s (s.leaveMode p) :=
  ((((s.abandonSweep_channel p).trans (State.abandonLearning_channel _ p .role)).trans
    (State.loseRole_channel _ p)).trans (ChannelKept.modPair (.of_same rfl rfl))).trans (State.arbitrate_channel _)

/-- A pair without an exchange in flight enters a role in silence. -/
theorem State.silenced_channel {s : State} {p : Pair}
    (hx : p ∈ flightPairs s.queue → exchangeRole (s.pair p).role = false) (r : Role) (c : RoleCause) : ChannelKept s ((s.setRole p r c).modPair p PairState.silence) := by
  refine ((ChannelKeptBut.setRole s p r c).trans (.modOwn _ p PairState.silence)).whole (fun hp hs => ?_) fun _ _ => ?_
  · rw [hx hp] at hs
    cases hs
  · rw [State.pair_modPair_same]
    rfl

end Sys2Proof.Machine
end

section
/-! Completions, exchanges, roles, samples and the clock keep the supervisory queue sound and silent pairs without a tone
(R6, R113 to R131, R161, R162). -/

namespace Sys2Proof.Machine

/-! ### The pair of an entry -/

theorem QueueEntry.midpoint_pair (e : QueueEntry) (readback : Tone) : (e.midpoint readback).pair = e.pair := by
  unfold QueueEntry.midpoint
  split
  · split
    · split <;> exact e.withPhase_pair _
    · exact e.withPhase_pair _
  · rfl

theorem QueueEntry.takeChip_pair (e : QueueEntry) (order position : Nat) (x : Int) :
    (e.takeChip order position x).pair = e.pair := by
  unfold QueueEntry.takeChip
  split
  · split
    · exact e.withPhase_pair _
    · rfl
  · rfl

section
variable {b : Prop} {s : State} (h : ChannelInv b s)
include h

/-! ### Completions (R70, R73, R74) -/

theorem ChannelInv.isolationStage (p : Pair) (ks : List Known) (named : List Nat) :
    ChannelInv b (s.isolationStage p ks named) := by
  have verified : ChannelKept s ((s.faultsOf p).foldl (State.verifyPass ks) s) :=
    .foldl (fun s r => (State.verifyPass_kept ks s r).channel (.of_eq (State.verifyPass_queue ks s r))) _ s
  have waited (s : State) (rs : List FaultRecord) : ChannelKept s (rs.foldl State.waitingPass s) :=
    .foldl (fun s r => (s.waitingPass_kept r).channel (s.waitingPass_queueKept r)) rs s
  have auto (s : State) : ChannelKept s (named.foldl State.autoStart s) :=
    .foldl (fun s id => (s.autoStart_kept id).channel (s.autoStart_queueKept id)) named s
  exact (h.kept ((verified.trans (waited _ _)).trans (auto _))).startNext

theorem ChannelInv.judgeStages (p : Pair) (ks : List Known) (number : BitVec 48) (stamp : LineTime) :
    ChannelInv b (s.judgeStages p ks number stamp) := by
  unfold State.judgeStages
  split
  · exact h.isolationStage ..
  · exact (h.kept ((s.localize_kept ..).channel (.of_eq (s.localize_queue ..)))).isolationStage ..

theorem ChannelInv.stages (p : Pair) (w : Sweep) (stamp : LineTime) : ChannelInv b (s.stages p w stamp) := by
  have flagged (s : State) (x : Bool) (k : PairFlag) : ChannelKept s (s.setPairFlagIf x p k) :=
    (s.setPairFlagIf_kept ..).channel (.of_eq (s.setPairFlagIf_queue ..))
  have judged (s : State) (js : List Judged) : ChannelKept s (s.tableStage p js) :=
    ((ChannelKept.modPair (.of_same rfl rfl)).trans (flagged ..)).trans (flagged ..)
  have published (s : State) (x : PublishedSweep) : ChannelKept s (s.publish p x) :=
    (ChannelKept.modPair (.of_same rfl rfl)).trans ((State.setPairFlag_kept ..).channel (.refl _))
  have released (s : State) : ChannelKept s (s.releaseHold p) := .modPair (.of_same rfl rfl)
  exact (((h.kept ((judged s _).trans (State.learningStage_channel ..))).judgeStages ..).kept
    ((published _ _).trans (released _)))

theorem ChannelInv.finishSweep (p : Pair) : ChannelInv b (s.finishSweep p) := by
  unfold State.finishSweep
  split
  · split
    · exact ((h.stages ..).kept (.modPair (.of_same rfl rfl))).kept (State.reportLeftBank_channel _ p)
    · exact h
  · exact h

/-- The transmitter's choice marks an entry that has ended (R172). -/
theorem ChannelInv.transmit : ChannelInv b s.transmit := by
  refine h.kept (s.transmit_kept.channel ?_)
  rcases s.transmit_cases with e | ⟨_, _, _, _, e⟩ | ⟨_, _, _, e⟩ | ⟨_, _, _, _, _, e⟩ <;> rw [e]
  · exact .refl _
  · exact .refl _
  · exact .refl _
  · refine .modFirst (fun e _ => ?_) fun e => ?_ <;> unfold QueueEntry.beginNotice <;> split
    · exact fun hf => nomatch hf
    · exact id
    · rfl
    · rfl

theorem ChannelInv.takeCompletion (p : Pair) : ChannelInv b (s.takeCompletion p) := by
  unfold State.takeCompletion
  split
  · exact (h.finishSweep p).transmit
  · exact h

theorem ChannelInv.completeSweep (p : Pair) : ChannelInv b (s.completeSweep p) := by
  unfold State.completeSweep
  split
  · exact (h.finishSweep p).kept (State.replan_channel _ p)
  · exact h

/-! ### Exchanges (R119 to R130) -/

theorem ChannelInv.setPairFlag (p : Pair) (k : PairFlag) : ChannelInv b (s.setPairFlag p k) :=
  h.kept ((s.setPairFlag_kept p k).channel (.refl _))

/-- The exchange in flight lands: where at most one was in flight, none is (R113, R128). -/
theorem ChannelInv.settle (e : QueueEntry) (x : ExchangeResult) (reply : List Byte) :
    ChannelInv b (s.settle e x reply) ∧ flightPairs (s.settle e x reply).queue = [] := by
  obtain ⟨_, single, _⟩ := supervisoryInv_iff.mp h.queue
  have grounded : (flightPairs s.queue).tail = [] := by
    rw [← List.length_eq_zero_iff, List.length_tail]
    omega
  unfold State.settle
  split
  · refine ⟨h.kept (s.modFlight_channel fun _ => rfl), ?_⟩
    exact (flightPairs_landed (fun _ => rfl) s.queue).trans grounded
  next id _ =>
    have delivered := State.deliver_queueKept { s with queue := dropFirst QueueEntry.isInFlight s.queue } id x reply
    refine ⟨(h.kept ((s.withQueue_kept _).channel (.sublist (dropFirst_sublist _ _)))).kept
      ((State.deliver_kept ..).channel delivered), ?_⟩
    have flights := delivered.flights
    rw [flightPairs_dropFirst, grounded] at flights
    exact List.sublist_nil.mp flights

theorem ChannelInv.unmuteRecord (p : Pair) (i : Nat) : ChannelInv b (s.unmuteRecord p i) :=
  (h.kept (.modPair (.of_same rfl rfl))).kept (State.considerSweep_channel _ p)

theorem ChannelInv.tableEffect (e : QueueEntry) : ChannelInv b (s.tableEffect e) := by
  unfold State.tableEffect
  split
  · exact h.kept (.modPair (.of_same rfl rfl))
  · exact h.unmuteRecord ..
  · exact h.unmuteRecord ..
  · exact h

theorem ChannelInv.endExchange (e : QueueEntry) (x : ExchangeResult) (reply : List Byte) :
    ChannelInv b (s.endExchange e x reply) := by
  obtain ⟨settled, grounded⟩ := h.settle e x reply
  have reported := settled.kept (State.reportExchangeEnd_channel grounded e.pair)
  unfold State.endExchange
  dsimp only
  split
  · exact (reported.tableEffect e).startNext
  · exact reported.startNext

/-- A new attempt is made by a HOLDER (R127). -/
theorem ChannelInv.endAttempt (e : QueueEntry) (x : ExchangeResult) (reply : List Byte) :
    ChannelInv b (s.endAttempt e x reply) := by
  unfold State.endAttempt
  split
  next again =>
    simp only [State.retries, Bool.and_eq_true, decide_eq_true_eq] at again
    have counted : ChannelKept s
        (s.modFlight fun e => { e with retries := e.retries - 1, attempts := e.attempts + 1 }) :=
      s.modFlight_channel fun _ => rfl
    exact (h.kept counted).kept (State.askTone_channel (Role.name_eq_holder again.1.2).2)
  · exact h.endExchange ..

theorem ChannelInv.midpoint (readback : Tone) : ChannelInv b (s.midpoint readback) := by
  unfold State.midpoint
  split
  · split
    · exact (h.kept (.modPair (.of_same rfl rfl))).kept
        (State.modFlight_channel _ fun e => e.midpoint_pair readback)
    · exact h
  · exact h

theorem ChannelInv.frameEnd : ChannelInv b s.frameEnd := by
  unfold State.frameEnd
  split
  · split
    · dsimp only
      split
      · exact (h.kept (s.releaseTone_channel _)).endExchange ..
      · exact (h.kept (s.releaseTone_channel _)).kept (State.withPhase_channel _ _)
    · exact h
  · exact h

theorem ChannelInv.driveStop : ChannelInv b s.driveStop := by
  unfold State.driveStop
  split
  · split
    · split
      · exact ((h.kept (s.releaseTone_channel _)).setPairFlag ..).endExchange ..
      · exact h
    · exact h
  · exact h

theorem ChannelInv.withBank (x : Bank) : ChannelInv b { s with bank := x } :=
  h.kept (.of_pairs (.refl _) fun p => .refl (s.pair p))

theorem ChannelInv.receptionStart : ChannelInv b s.receptionStart := by
  unfold State.receptionStart
  split
  · split
    · split
      · exact (h.kept (s.withPhase_channel _)).withBank _
      · exact h
    · exact h
  · exact h

theorem ChannelInv.replyBit : ChannelInv b s.replyBit := by
  unfold State.replyBit
  split
  · split
    · split
      · unfold State.judgeBits
        split
        · exact h.endAttempt ..
        · split
          · exact h.endAttempt ..
          · exact h.kept (s.withPhase_channel _)
      · exact h
    · exact h
  · exact h

/-- A pair whose exchange is cut may send, so that the symbol being sent is finished (R130). -/
theorem ChannelInv.cutExchange (p : Pair) : ChannelInv b (s.cutExchange p) := by
  unfold State.cutExchange
  split
  next e hf =>
    split
    next hp =>
      have carried := h.queue.held e (List.mem_of_find?_eq_some hf) (List.find?_some hf)
      rw [hp] at carried
      exact (h.kept (.modPair (.of_sender rfl (silentRole_of_exchange carried)))).endExchange ..
    · exact h
  · exact h

/-! ### Roles (R152 to R164) -/

/-- A claim ends in silence, in a role that has carried no exchange (R157). -/
theorem ChannelInv.endClaim {p : Pair} (hr : exchangeRole (s.pair p).role = false) (c : RoleCause) :
    ChannelInv b (s.endClaim p c) := h.kept (State.silenced_channel (fun _ => hr) .listen c)

theorem ChannelInv.claimBurstEnd (p : Pair) : ChannelInv b (s.claimBurstEnd p) := by
  unfold State.claimBurstEnd
  split
  next t hr =>
    have role : ((s.releaseTone p).pair p).role = .claiming t .burst := ((s.releaseTone_kept p).pair p).role.trans hr
    refine (h.kept (s.releaseTone_channel p)).kept (.modPair (.of_name ?_ ?_ id)) <;> rw [role]
    · rfl
    · exact fun e => nomatch e
  · exact h

theorem ChannelInv.keepBurstEnd (p : Pair) : ChannelInv b (s.keepBurstEnd p) := by
  unfold State.keepBurstEnd
  split
  · exact h.kept (s.releaseTone_channel p)
  · exact h

theorem ChannelInv.claimWon (p : Pair) : ChannelInv b (s.claimWon p) := by
  unfold State.claimWon
  split
  · have entered : ChannelKept s (s.setRole p (.holder .idle) .claimWon) := by
      refine (ChannelKeptBut.setRole ..).whole (fun _ _ => ?_) fun _ => ?_ <;> rw [State.pair_setRole_same]
      · rfl
      · exact fun hs => nomatch hs
    exact ((h.kept entered).kept (State.considerSweep_channel _ p)).startNext
  · exact h

theorem ChannelInv.claimTimeout (p : Pair) : ChannelInv b (s.claimTimeout p) := by
  unfold State.claimTimeout
  split
  next hd =>
    refine h.endClaim ?_ _
    unfold PairState.claimTimeoutDue at hd
    split at hd
    next hr => rw [hr]; rfl
    · cases hd
  · exact h

theorem ChannelInv.collide (p : Pair) : ChannelInv b (s.collide p) := by
  unfold State.collide
  split
  next hd =>
    split
    · exact ((h.takeCompletion p).setPairFlag ..).kept (State.enterYielding_channel ..)
    · have holder : (s.pair p).role.name = .holder := by
        unfold PairState.collisionDue at hd
        split at hd
        next hr => rw [hr]; rfl
        · cases hd
      have sends := (Role.name_eq_holder holder).2
      refine ((h.setPairFlag p .collision).kept (State.orderKeep_channel sends)).kept (.modPair ⟨fun _ => rfl, ?_⟩)
      exact fun _ hs => nomatch hs
  · exact h

theorem ChannelInv.farKeep (p : Pair) : ChannelInv b (s.farKeep p) := by
  unfold State.farKeep
  split
  next hr => exact h.endClaim (by rw [hr]; rfl) _
  · exact h

theorem ChannelInv.farClaim (p : Pair) : ChannelInv b (s.farClaim p) := by
  unfold State.farClaim
  split
  next t quiet hr =>
    split
    · exact h.endClaim (by rw [hr]; rfl) _
    · refine h.kept (.modPair (.of_name ?_ ?_ id)) <;> rw [hr]
      · rfl
      · exact fun e => nomatch e
  next hr =>
    split
    · exact h.kept (State.orderKeep_channel (by rw [hr]; rfl))
    · exact h.kept (s.enterYielding_channel ..)
  · exact h

theorem ChannelInv.enterClaiming {p : Pair} (hr : (s.pair p).role = .listen) : ChannelInv b (s.enterClaiming p) := by
  refine h.kept (((ChannelKeptBut.setRole ..).trans (.modOwn _ p _)).whole (fun _ hx => ?_) fun _ hs => ?_)
  · rw [hr] at hx
    cases hx
  · rw [State.pair_modPair_same, State.pair_setRole_same] at hs
    cases hs

/-! ### Modes (R15 to R17) -/

/-- A pair parks with no exchange in flight (R15). -/
theorem ChannelInv.park {p : Pair} (hf : s.inFlightOn p = false) : ChannelInv b (s.park p) := by
  have idle (hp : p ∈ flightPairs s.queue) : exchangeRole (s.pair p).role = false := by
    rw [State.inFlightOn_iff.mpr hp] at hf
    cases hf
  rw [State.park_eq]
  exact ((h.kept (State.silenced_channel idle .parked .host)).kept (State.leaveMode_channel _ p)).kept
    (.modPair (.of_same rfl rfl))

/-- The roles without an exchange are changed at will among those that send nothing (R6). -/
theorem ChannelInv.setRole_of_silent {p : Pair} (hs : silentRole (s.pair p).role.name = true)
    (r : Role) (c : RoleCause) : ChannelInv b (s.setRole p r c) := by
  refine h.kept ((ChannelKeptBut.setRole ..).whole (fun _ hx => ?_) fun fits _ => ?_)
  · rw [silentRole_of_exchange hx] at hs
    cases hs
  · rw [State.pair_setRole_same]
    exact fits hs

theorem ChannelInv.enterSynthetic {p : Pair} (hs : silentRole (s.pair p).role.name = true) :
    ChannelInv b (s.enterSynthetic p) := by
  refine ((h.setRole_of_silent hs .synthetic .host).kept (.modPair ?_)).kept (State.considerSweep_channel _ p)
  split <;> exact .of_same rfl rfl

/-! ### Samples and detectors (R18 to R26) -/

theorem ChannelInv.returnSample (p : Pair) (strobe : Option (BitVec 12)) : ChannelInv b (s.returnSample p strobe) := by
  have ended (q : PairState) : DriveKept q q.endChip := by
    unfold PairState.endChip
    split <;> exact .of_same rfl rfl
  have sampled {s' : State} (h : ChannelInv b s') (x : Bank) {q : PairState} (hq : DriveKept (s'.pair p) q) :
      ChannelInv b { s'.setPair p q.endChip with bank := x } := (h.kept (.setPair (hq.trans (ended q)))).withBank x
  unfold State.returnSample
  dsimp only
  split
  · exact h
  · split
    · exact sampled (h.kept (s.modFlight_channel fun e => e.takeChip_pair ..)) _ (.of_same rfl rfl)
    · exact sampled h _ (.of_same rfl rfl)

theorem ChannelInv.declareLoss (p : Pair) : ChannelInv b (s.declareLoss p) := by
  unfold State.declareLoss
  split
  · have begun := (((h.takeCompletion p).kept (.modPair (p := p) (f := fun q =>
      { q with det := { q.det with lossDeclared := true, lossRun := 0 } }) (.of_same rfl rfl))).setPairFlag p
      .returnLoss).kept (State.abandonSweep_channel _ p)
    refine (ChannelInv.cutExchange ?_ p).kept (State.arbitrate_channel _)
    split
    · exact begun
    · exact begun.kept (State.reportLeftBank_channel _ p)
  · exact h

theorem ChannelInv.periodBoundary (p : Pair) : ChannelInv b (s.periodBoundary p) := by
  have crossed := (h.kept (.setPair (p := p) (q := (s.pair p).crossBoundary) (.of_same rfl rfl))).withBank
    (s.bank.countPeriod p)
  unfold State.periodBoundary
  dsimp only
  split
  · split
    · exact ((crossed.setPairFlag p .returnLoss).kept (State.considerSweep_channel _ p)).startNext
    · exact crossed
  · exact h

theorem ChannelInv.activityBlock (p : Pair) : ChannelInv b (s.activityBlock p) := by
  unfold State.activityBlock
  dsimp only
  split
  · refine h.kept (.setPair ?_)
    split
    · split
      · exact .of_name (Role.name_farBegins _).1 (Role.name_farBegins _).2 id
      · exact .of_name (Role.name_farEnds _).1 (Role.name_farEnds _).2 id
    · exact .of_same rfl rfl
  · exact h

theorem ChannelInv.farMillisecond (p : Pair) (f3 f4 : Nat) : ChannelInv b (s.farMillisecond p f3 f4) := by
  have taken (x : Bool) : ChannelInv b (if x = true then s.takeCompletion p else s) := by
    split
    · exact h.takeCompletion p
    · exact h
  have claimed {s' : State} (h : ChannelInv b s') (x : Bool) :
      ChannelInv b (if x = true then s'.farClaim p else s') := by
    split
    · exact h.farClaim p
    · exact h
  unfold State.farMillisecond
  dsimp only
  split
  · exact h
  · split
    · exact (claimed ((taken _).kept (.modPair (.of_same rfl rfl))) _).farKeep p
    · exact claimed ((taken _).kept (.modPair (.of_same rfl rfl))) _

/-! ### Passes (R33, R37, R70) -/

theorem ChannelInv.passBegin (p : Pair) : ChannelInv b (s.passBegin p) := by
  unfold State.passBegin
  split
  · exact h.withBank _
  · exact h

theorem ChannelInv.takeDelivery (p : Pair) (ms : List WindowMeasurement) : ChannelInv b (s.takeDelivery p ms) := by
  unfold State.takeDelivery
  split
  next w _ =>
    have delivered := h.kept (.modPair (p := p) (f := fun q => { q with sweep := some (w.deliver ms s.now) })
      (.of_same rfl rfl))
    dsimp only
    split
    · exact (delivered.kept (State.abandonSweep_channel _ p)).kept (State.reportLeftBank_channel _ p)
    · exact delivered
  · exact h

theorem ChannelInv.passEnd (p : Pair) : ChannelInv b (s.passEnd p) := by
  unfold State.passEnd
  split
  · split
    · exact ((h.withBank .idle).takeDelivery ..).kept (State.arbitrate_channel _)
    · exact h
  · exact h

/-! ### The clock (R1, R119, R154) -/

theorem ChannelInv.tick : ChannelInv b s.tick := by
  have paired (now : Timebase) (e : QueueEntry) :
      (e.tick now).pair = e.pair ∧ (e.tick now).isInFlight = e.isInFlight := by
    unfold QueueEntry.tick
    split
    · split <;> exact ⟨e.withPhase_pair _, e.withPhase_isInFlight _⟩
    · exact ⟨e.withPhase_pair _, e.withPhase_isInFlight _⟩
    · exact ⟨rfl, rfl⟩
  have quiet (q : PairState) : DriveKept q q.tick := by
    refine .of_name q.role.name_tick.1 q.role.name_tick.2 fun ht => ?_
    unfold PairState.tick
    rw [ht]
    rfl
  have ended (s : State) (p : Pair) : ChannelKept s (s.endLastSymbol p) := by
    unfold State.endLastSymbol
    split
    · exact s.releaseTone_channel p
    · exact .refl _ s
  have ticked : ChannelKept s { s.tickTime with
      pairs := ⟨s.pairs.p1.tick, s.pairs.p2.tick, s.pairs.p3.tick, s.pairs.p4.tick⟩
      queue := s.queue.map (QueueEntry.tick s.tickTime.time)
      port := { s.tickTime.port with tx := s.port.tx.tick } } :=
    .of_pairs (.map (fun e => (paired _ e).2) fun e => (paired _ e).1) fun p => by cases p <;> exact quiet _
  exact ((h.kept ticked).kept (.foldl ended allPairs _)).transmit

end

end Sys2Proof.Machine
end

section
/-! Requests, the Message Port and every step keep the supervisory queue sound and silent pairs without a tone (R6, R113,
R131, R161). -/

namespace Sys2Proof.Machine

/-! ### Requests -/

/-- The requests that leave the blocks alone leave the queue. -/
theorem requestOwner_queue {r : Request} (h : changesBlocks r = false) (tag : Byte) (s : State) :
    (requestOwner tag r s).1.queue = s.queue := by
  cases r with
  | identify | reset | readTime | readEvents | readQueue => rfl
  | setTime | adjustTime | clearEvents | setNoticeMask =>
    simp only [requestOwner, ownSetTime, ownAdjustTime, ownClearEvents, ownSetNoticeMask]
    split <;> rfl
  | readPairConfig p | readRole p | readLearning p =>
    exact withPair_kept (I := fun t => t.queue = s.queue) rfl (fun _ => rfl) p
  | readRepeater p =>
    refine withPair_kept (I := fun t => t.queue = s.queue) rfl (fun _ => ?_) p
    dsimp only
    split <;> rfl
  | listFaults | readFault =>
    simp only [requestOwner, ownListFaults, ownReadFault]
    split
    · rfl
    · split <;> rfl
  | _ => cases h

section
variable {b : Prop} {s : State} (h : ChannelInv b s)
include h

theorem ChannelInv.configurePair (x : Byte) (ps : List Word) : ChannelInv b (ownConfigurePair x ps s).1 := by
  refine withPair_kept h (fun p => ?_) x
  dsimp only
  split
  · exact h
  · split
    · exact h
    · refine h.kept (.setPair ?_)
      unfold PairState.configure
      split <;> exact .of_same rfl rfl

/-- Parking is refused while an exchange of the pair is in flight; the other modes are entered from roles that send
nothing (R15 to R17). -/
theorem ChannelInv.setPairMode (x m : Byte) : ChannelInv b (ownSetPairMode x m s).1 := by
  refine withPair_kept h (fun p => ?_) x
  split
  · unfold setDisabled parkOrRefuse
    split
    · exact h
    · split <;> exact h
    · split
      · exact h
      · dsimp only
        split
        · exact (h.takeCompletion p).kept (State.replan_channel _ p)
        next idle => exact (h.takeCompletion p).park (by simpa using idle)
  · unfold setEnabled
    split
    next hr =>
      dsimp only
      exact (h.setRole_of_silent (by rw [hr]; rfl) .listen .host).kept (.modPair (.of_same rfl rfl))
    next hr =>
      obtain ⟨_, role⟩ := State.pair_takeCompletion (s := s) (p := p) (by rw [hr]; decide)
      exact ((h.takeCompletion p).setRole_of_silent (by rw [role, hr]; rfl) .listen .host).kept
        (State.leaveMode_channel _ p)
    · exact h
  · unfold setSynthetic
    split
    next hr =>
      refine (h.kept (.modPair (.of_same rfl rfl))).enterSynthetic ?_
      rw [State.pair_modPair_same]
      exact hr ▸ rfl
    next hr => exact h.enterSynthetic (by rw [hr]; rfl)
    · exact h
  · exact h

theorem ChannelInv.injectFault (x first : Byte) (f : Half) : ChannelInv b (ownInjectFault x first f s).1 := by
  refine withPair_kept h (fun p => ?_) x
  dsimp only
  split
  · exact h
  · split
    · exact h
    · split
      · exact h
      · exact h.kept (.setPair (.of_same rfl rfl))

theorem ChannelInv.takeRole (x : Byte) : ChannelInv b (ownTakeRole x s).1 := by
  refine withPair_kept h (fun p => ?_) x
  split
  case h_1 hr => exact h.enterClaiming hr
  all_goals exact h

theorem ChannelInv.releaseRole (x m : Byte) : ChannelInv b (ownReleaseRole x m s).1 := by
  refine withPair_kept h (fun p => ?_) x
  split
  · exact h
  · split
    case h_1 => exact (h.takeCompletion p).kept (State.enterYielding_channel ..)
    case h_2 hr => exact h.endClaim (by rw [hr]; rfl) _
    all_goals exact h

theorem ChannelInv.loadRepeaters (x first : Byte) (ls : List LoadRecord) :
    ChannelInv b (ownLoadRepeaters x first ls s).1 := by
  refine withPair_kept h (fun p => ?_) x
  have removed : ChannelKept s (s.removeFaults p) :=
    (s.removeFaults_kept p).channel (.of_eq (State.setPairFlagIf_queue ..))
  dsimp only
  split
  · exact h
  · split
    · exact h
    · split
      · exact h
      · split
        · exact h
        · unfold State.storeRecords
          dsimp only
          split
          · exact (h.kept removed).kept (.modPair (.of_same rfl rfl))
          · exact h.kept (.modPair (.of_same rfl rfl))

theorem ChannelInv.editRepeater (x i c : Byte) (low high presence baseline : Half) (y : Byte) :
    ChannelInv b (ownEditRepeater x i c low high presence baseline y s).1 := by
  unfold ownEditRepeater
  split
  · exact h
  · split
    · exact h
    · refine withPair_kept h (fun p => ?_) x
      have edited : ChannelInv b (s.edited p i.toNat (editChanges c low high presence baseline y)) := by
        unfold State.edited
        dsimp only
        split
        · exact (h.kept (.modPair (.of_same rfl rfl))).kept (State.considerSweep_channel _ p)
        · exact h.kept (.modPair (.of_same rfl rfl))
      dsimp only
      split
      · exact h
      · split
        · exact h
        · split <;> exact edited

theorem ChannelInv.readResults (x r start c : Byte) : ChannelInv b (ownReadResults x r start c s).1 := by
  unfold ownReadResults
  split
  · exact h
  · refine withPair_kept h (fun p => ?_) x
    have served (q : PairState) (hq : DriveKept (s.pair p) q) :
        ChannelInv b (s.setPair p (servePage x start.toNat c.toNat q).1) :=
      h.kept (.setPair (hq.trans (.of_same rfl rfl)))
    dsimp only
    split
    · split
      · exact h
      · exact served _ (.of_same rfl rfl)
    · split
      · exact h
      · exact served _ (.refl _)

theorem ChannelInv.readTrace (x i : Byte) : ChannelInv b (ownReadTrace x i s).1 := by
  refine withPair_kept h (fun p => ?_) x
  have refreshed : ChannelInv b (if (s.pair p).readout.isNone then s.setPair p (s.pair p).refresh else s) := by
    split
    · exact h.kept (.setPair (.of_same rfl rfl))
    · exact h
  dsimp only
  split
  · exact refreshed
  · split <;> exact refreshed

theorem ChannelInv.learnBaseline (x n m : Byte) : ChannelInv b (ownLearnBaseline x n m s).1 := by
  refine withPair_kept h (fun p => ?_) x
  dsimp only
  split
  · exact h
  · split
    · exact h
    · split
      · exact h
      · split
        · exact h
        · exact h.kept (.setPair (.of_same rfl rfl))

theorem ChannelInv.abortLearn (x : Byte) : ChannelInv b (ownAbortLearn x s).1 := by
  refine withPair_kept h (fun p => ?_) x
  split
  · exact h
  · exact h.kept (s.abandonLearning_channel ..)

theorem ChannelInv.purgeFault (o : Byte) (i : Half) (sel : Byte) : ChannelInv b (ownPurgeFault o i sel s).1 := by
  have filtered (fs : List FaultRecord) : ChannelInv b { s with faults := fs } :=
    h.kept ((s.withFaults_kept fs _).channel (.refl _))
  unfold ownPurgeFault
  split
  · unfold purgeOne
    split
    · exact h
    · split
      · exact h
      · split
        · exact h
        · exact filtered _
  · unfold purgeCleared
    split
    · exact h
    · exact filtered _
  · exact h

theorem ChannelInv.hostSequence (id : Half) (r : FaultRecord) (a : Action) (w : Option Half) :
    ChannelInv b (s.hostSequence id r a w).1 :=
  (h.kept ((s.startSequence_kept ..).channel (s.startSequence_queueKept ..))).startNext

theorem ChannelInv.isolate (i : Half) (a : Byte) : ChannelInv b (ownIsolate i a s).1 := by
  unfold ownIsolate
  split
  · exact h
  · split
    · exact h
    · split
      · exact h
      · split
        · exact h
        · split
          · exact h
          · split
            · exact h.hostSequence ..
            · exact h

theorem ChannelInv.releaseIsolation (i : Half) : ChannelInv b (ownReleaseIsolation i s).1 := by
  unfold ownReleaseIsolation
  split
  · exact h
  · split
    · exact h
    · split
      · exact h
      · split
        · exact h
        · exact h.hostSequence ..

theorem ChannelInv.supervise (tag x i c a : Byte) : ChannelInv b (ownSupervise tag x i c a s).1 := by
  refine withPair_kept h (fun p => ?_) x
  dsimp only
  split
  · exact h
  · split
    · exact h
    · split
      · exact h
      · split
        · exact h
        · split
          next room => exact (h.kept ((s.enqueue_kept ..).channel (.enqueue (of_decide_eq_true room) rfl))).startNext
          · exact h

theorem ChannelInv.requestOwner (tag : Byte) (r : Request) : ChannelInv b (requestOwner tag r s).1 := by
  cases hr : changesBlocks r with
  | false => exact h.kept ((requestOwner_agrees hr tag s).channel (.of_eq (requestOwner_queue hr tag s)))
  | true =>
    cases r with
    | configurePair p ps => exact h.configurePair p ps
    | setPairMode p m => exact h.setPairMode p m
    | injectFault p f q => exact h.injectFault p f q
    | takeRole p => exact h.takeRole p
    | releaseRole p m => exact h.releaseRole p m
    | loadRepeaters p f rs => exact h.loadRepeaters p f rs
    | editRepeater p i c lo hi pr x y => exact h.editRepeater p i c lo hi pr x y
    | readResults p r f c => exact h.readResults p r f c
    | readTrace p i => exact h.readTrace p i
    | learnBaseline p n m => exact h.learnBaseline p n m
    | abortLearn p => exact h.abortLearn p
    | purgeFault o i sel => exact h.purgeFault o i sel
    | isolate i a => exact h.isolate i a
    | releaseIsolation i => exact h.releaseIsolation i
    | supervise p i c a => exact h.supervise tag p i c a
    | _ => cases hr

/-! ### The Message Port (R168 to R172) -/

/-- What the port writes of itself. -/
theorem ChannelInv.withPort (x : PortState) : ChannelInv b { s with port := x } :=
  h.kept (.of_pairs (.refl _) fun p => .refl (s.pair p))

theorem ChannelInv.setPartFlag (k : PartFlag) : ChannelInv b (s.setPartFlag k) :=
  h.kept ((s.setPartFlag_agrees k).channel (.of_eq (by simp)))

theorem ChannelInv.joinRequests (f : Frame) : ChannelInv b (s.joinRequests f) := by
  unfold State.joinRequests
  split
  · exact h.withPort _
  · exact h.setPartFlag _

theorem ChannelInv.answer (typ tag : Byte) (a : Answer) : ChannelInv b (State.answer typ tag (s, a)) := h.withPort _

theorem ChannelInv.handleFrame (f : Frame) : ChannelInv b (s.handleFrame f) := by
  unfold State.handleFrame
  split
  · exact h.answer ..
  · exact h.answer ..
  next r _ => exact (h.requestOwner f.tag r).answer ..

theorem ChannelInv.takeUpTo (fuel : Nat) : ChannelInv b (State.takeUpTo fuel s) := by
  induction fuel generalizing s with
  | zero => exact h
  | succ fuel ih =>
    unfold State.takeUpTo
    split
    · refine ih ?_
      unfold State.takeOldest
      split
      · exact h
      next f rest _ => exact (h.withPort { s.port with requests := rest }).handleFrame f
    · exact h

theorem ChannelInv.arrive (f : Frame) : ChannelInv b (s.arrive f) := by
  unfold State.arrive
  split
  · exact h.handleFrame f
  · exact h.joinRequests f

theorem ChannelInv.completeFrame (f : Frame) : ChannelInv b (s.completeFrame f) :=
  ((h.joinRequests f).takeUpTo _).transmit

theorem ChannelInv.discardFrame : ChannelInv b s.discardFrame := (h.setPartFlag _).transmit

theorem ChannelInv.receive (fuel : Nat) (bytes : List HeldByte) : ChannelInv b (State.receive fuel bytes s) := by
  induction fuel generalizing bytes s with
  | zero => exact h.withPort _
  | succ fuel ih =>
    cases bytes with
    | nil => exact h.withPort _
    | cons x rest =>
      unfold State.receive
      split
      · exact ih h rest
      · split
        · exact ih h.discardFrame rest
        · exact ih (h.completeFrame _) _
        · split
          · exact ih h.discardFrame rest
          · exact h.withPort _

/-- A supervisory-result notice that has been sent takes its entry with it, which has ended (R133). -/
theorem ChannelInv.frameSent (kind : SentKind) : ChannelInv b (s.frameSent kind) := by
  cases kind with
  | reply => exact h.withPort _
  | eventNotice => exact h.withPort _
  | resultNotice => exact h.kept ((s.frameSent_agrees _).channel (.sublist (dropFirst_sublist _ _)))

theorem ChannelInv.transmitEnd : ChannelInv b s.transmitEnd := by
  unfold State.transmitEnd
  split
  · exact (h.frameSent _).transmit.takeUpTo _
  · exact h

end

/-! ### Commands and steps -/

theorem ChannelInv.of_reset (b : Prop) {t : State} (hb : BlocksAtReset t) (hq : t.queue = []) : ChannelInv b t := by
  refine ⟨⟨by simp [hq], by simp [hq], by simp [hq]⟩, fun _ p _ => ?_⟩
  obtain ⟨inputs, own⟩ := hb.pair p
  rw [own]
  rfl

section
variable {b : Prop} {s : State} (h : ChannelInv b s)
include h

theorem ChannelInv.resetEffect : ChannelInv b s.resetEffect := by
  unfold State.resetEffect
  split
  · exact .of_reset b s.softReset_atReset rfl
  · exact h

theorem ChannelInv.event {i : Instr} {f : State → State} (hf : blockEvent i = some f) : ChannelInv b (f s) := by
  cases i with
  | returnSample p x => cases hf; exact h.returnSample p x
  | returnLossDeclared p => cases hf; exact h.declareLoss p
  | periodBoundary p => cases hf; exact h.periodBoundary p
  | farActivityBlock p => cases hf; exact h.activityBlock p
  | farToneMillisecond p f3 f4 => cases hf; exact h.farMillisecond p f3 f4
  | passBegin p => cases hf; exact h.passBegin p
  | passEnd p => cases hf; exact h.passEnd p
  | sweepCompletion p => cases hf; exact h.completeSweep p
  | commandFrameEnd => cases hf; exact h.frameEnd
  | driveErrorStop => cases hf; exact h.driveStop
  | receptionStart => cases hf; exact h.receptionStart
  | replyBit => cases hf; exact h.replyBit
  | claimBurstEnd p => cases hf; exact h.claimBurstEnd p
  | keepBurstEnd p => cases hf; exact h.keepBurstEnd p
  | claimWon p => cases hf; exact h.claimWon p
  | claimTimeout p => cases hf; exact h.claimTimeout p
  | collision p => cases hf; exact h.collide p
  | toneSymbolMidpoint readback => cases hf; exact h.midpoint readback
  | _ => cases hf

theorem ChannelInv.live {f : State → State} (hf : ChannelInv b (f s)) {t : State} (ht : live s f = .next t) :
    ChannelInv b t := by
  unfold Machine.live at ht
  split at ht <;> cases ht
  · exact h
  · exact hf.transmit

theorem ChannelInv.request {tag : Byte} {r : Request} {t : State}
    (ht : request tag r (Machine.requestOwner tag r) s = .next t) : ChannelInv b t := by
  refine h.live ?_ ht
  split
  · unfold State.handleWith
    split
    · exact (h.requestOwner tag r).answer ..
    · exact h.answer ..
  · exact h.joinRequests _

theorem ChannelInv.exec {i : Instr} {t : State} (ht : exec i s = .next t) : ChannelInv b t := by
  cases hr : asRequest i with
  | some x =>
    rw [exec_eq_request hr] at ht
    exact h.request ht
  | none =>
    cases he : blockEvent i with
    | some f =>
      rw [exec_eq_live he] at ht
      exact h.live (h.event he) ht
    | none =>
      cases i with
      | requestUnknownType tag typ payload => exact h.live (f := (·.arrive _)) (h.arrive _) ht
      | resetTakesEffect => exact h.live h.resetEffect ht
      | powerOnReset rate1 rate0 e =>
        cases ht
        exact .of_reset b ⟨fun p => ⟨_, State.pair_keepInputs (s := s) rfl p⟩, rfl, rfl, rfl⟩ rfl
      | resetPinLow =>
        cases ht
        exact h.kept (.of_pairs (.refl _) fun p => .refl (s.pair p))
      | frameReceived cs => exact h.live (f := fun s => (s.rescan []).rescan (fresh cs)) ((h.receive _ _).receive _ _) ht
      | frameAgeExpired => exact h.live (f := (·.rescan [])) (h.receive _ _) ht
      | transmitFrameEnd => exact h.live h.transmitEnd ht
      | timebaseFractionIncrement =>
        exact h.live (f := State.fractionIncrement) (h.kept (.of_pairs (.refl _) fun p => .refl (s.pair p))) ht
      | returnSample | returnLossDeclared | periodBoundary | farActivityBlock | farToneMillisecond | passBegin | passEnd
      | sweepCompletion | commandFrameEnd | driveErrorStop | receptionStart | replyBit | claimBurstEnd | keepBurstEnd
      | claimWon | claimTimeout | collision | toneSymbolMidpoint => cases he
      | _ => cases hr

theorem ChannelInv.step {t : State} (ht : step s = .next t) : ChannelInv b t := by
  unfold Machine.step at ht
  split at ht
  next c rest _ =>
    have popped : ChannelInv b { s with pending := rest } := h.kept (.of_pairs (.refl _) fun p => .refl (s.pair p))
    exact popped.exec ht
  · unfold idle at ht
    split at ht
    · cases ht
      exact h
    · split at ht
      · exact h.exec ht
      · cases ht
        exact h.tick

end

/-- Settles O56: an exchange takes off only on a HOLDER and lands before its pair leaves the roles that carry it
(`ChannelInv`); the tones may lean on the queue, which needs no more than itself. -/
theorem stepKeepsToneChannel : Obligations.StepKeepsToneChannel :=
  ⟨fun _ _ hq h => (ChannelInv.step ⟨hq, False.elim⟩ h).queue,
    fun _ _ hq ht h => (ChannelInv.step ⟨hq, fun _ => ht⟩ h).tones trivial⟩

end Sys2Proof.Machine
end

section
/-! The queue's next start and SUPERVISE (R7, R114, R117 to R119). -/

namespace Sys2Proof.Machine

/-! ### An attempt asks for the tone field (R7, R119) -/

section
variable {s : State} {p : Pair} {before after : List QueueEntry} {e : QueueEntry} {c : Captured} {ph : Phase}
  (hq : s.queue = before ++ e :: after) (hb : ∀ x ∈ before, x.isInFlight = false) (he : e.state = .inFlight c ph)
include hq hb he

theorem State.flight_at : s.flight = some e := State.flight_of_split hq hb (QueueEntry.isInFlight_of_state he)

theorem State.modFlight_at (f : QueueEntry → QueueEntry) :
    s.modFlight f = { s with queue := before ++ f e :: after } :=
  State.modFlight_of_split f hq hb (QueueEntry.isInFlight_of_state he)

theorem State.withPhase_at (ph' : Phase) : (s.modFlight (·.withPhase ph'))
    = { s with queue := before ++ { e with state := .inFlight c ph' } :: after } := by
  rw [State.modFlight_at hq hb he, QueueEntry.withPhase_inFlight he]

theorem State.askTone_free (hf : (s.pair p).tone.use = .free) : s.askTone p =
    { s.setPair p { s.pair p with tone := { (s.pair p).tone with use := .commandFrame } } with
      queue := before ++ { e with state := .inFlight c (.transmitting 1 0 false none) } :: after } := by
  unfold State.askTone
  rw [if_pos hf]
  exact State.withPhase_at (s := s.modPair p _) hq hb he _

theorem State.askTone_held (hf : (s.pair p).tone.use ≠ .free) : s.askTone p =
    { s.setPair p { s.pair p with
        tone := { (s.pair p).tone with waiting := (s.pair p).tone.waiting ++ [.commandFrame] } } with
      queue := before ++ { e with state := .inFlight c .toneWait } :: after } := by
  unfold State.askTone
  rw [if_neg hf]
  exact State.withPhase_at (s := s.modPair p _) hq hb he _

end

/-! ### The next start (R117, R118) -/

theorem State.eligible_iff {s : State} {e : QueueEntry} : s.eligible e = true ↔
    e.isWaiting = true ∧ (s.pair e.pair).role.name = .holder ∧ (s.pair e.pair).det.lossDeclared = false := by
  simp [State.eligible, and_assoc]

theorem State.flight_none {s : State} (h : ∀ e ∈ s.queue, e.isInFlight = false) : s.flight = none :=
  List.find?_eq_none.mpr fun e he => by simp [h e he]

theorem State.startNext_of_flight {s : State} (h : s.flight.isSome = true) : s.startNext = s := if_pos h

/-- No entry may start. -/
theorem State.startNext_of_none {s : State} (h : ∀ e ∈ s.queue, s.eligible e = false) : s.startNext = s := by
  rcases s.startNext_cases with e | ⟨e, _, he, _⟩
  · exact e
  · exact absurd (List.find?_some he) (by simp [h e (List.mem_of_find?_eq_some he)])

/-- The oldest entry that may start does. -/
theorem State.startNext_of_first {s : State} {before after : List QueueEntry} {e : QueueEntry}
    (hf : ∀ x ∈ s.queue, x.isInFlight = false) (hq : s.queue = before ++ e :: after)
    (hb : ∀ x ∈ before, s.eligible x = false) (he : s.eligible e = true) :
    s.startNext = ({ s with queue := before ++ e.start ((s.pair e.pair).capture e.index) :: after } :
      State).askTone e.pair := by
  unfold State.startNext
  rw [if_neg (by simp [State.flight_none hf]), hq, find_of_split after hb he]
  dsimp only
  rw [modFirst_of_split _ after hb he]

/-- The entry that starts takes a free tone field, and waits for one that is held (R7, R119). -/
theorem State.startNext_first {s : State} {before after : List QueueEntry} {e : QueueEntry} {c : Captured}
    (hf : ∀ x ∈ s.queue, x.isInFlight = false) (hq : s.queue = before ++ e :: after)
    (hb : ∀ x ∈ before, s.eligible x = false) (he : s.eligible e = true)
    (hc : (s.pair e.pair).capture e.index = c) :
    ((s.pair e.pair).tone.use = .free → s.startNext =
      { s.setPair e.pair { s.pair e.pair with tone := { (s.pair e.pair).tone with use := .commandFrame } } with
        queue := before ++ { e with attempts := 1, state := .inFlight c (.transmitting 1 0 false none) } :: after })
    ∧ ((s.pair e.pair).tone.use ≠ .free → s.startNext =
      { s.setPair e.pair { s.pair e.pair with
          tone := { (s.pair e.pair).tone with waiting := (s.pair e.pair).tone.waiting ++ [.commandFrame] } } with
        queue := before ++ { e with attempts := 1, state := .inFlight c .toneWait } :: after }) := by
  have grounded : ∀ x ∈ before, x.isInFlight = false := fun x hx => hf x (by rw [hq]; exact List.mem_append_left _ hx)
  rw [State.startNext_of_first hf hq hb he, hc]
  let t : State := { s with queue := before ++ e.start c :: after }
  exact ⟨State.askTone_free (s := t) (e := e.start c) rfl grounded rfl,
    State.askTone_held (s := t) (e := e.start c) rfl grounded rfl⟩

/-- The captured values as R118 gives them, for a broadcast and for a single repeater. -/
theorem PairState.capture_eq {q : PairState} {i address : Nat} {target : Option CapturedTarget}
    (h : i = 0 ∧ address = 4095 ∧ target = none
      ∨ ∃ r : RepeaterRecord, i ≠ 0 ∧ recordAt q.records i = some r ∧ address = r.address
          ∧ target = some ⟨r.centre, ((r.centre : Int) + r.lastValidOffset.getD 0).toNat,
              max 1 ((r.lastLockedAmp.getD r.baseline).toNat / 2)⟩) :
    q.capture i = ⟨address, target, q.config.chipCode, q.config.symbolTime, q.config.turnaround, q.config.replyBit,
      q.config.checkMode⟩ := by
  unfold PairState.capture
  rcases h with ⟨rfl, rfl, rfl⟩ | ⟨r, hi, hr, rfl, rfl⟩
  · rfl
  · rw [hr, if_neg hi, if_neg hi]
    rfl

/-! ### SUPERVISE (R114) -/

theorem exec_supervise {tag x i c a : Byte} {s t : State} {answer : Answer} (hs : s.Ready)
    (h : ownSupervise tag x i c a s = (t, answer)) :
    exec (.supervise tag x i c a) s = .next (t.replied 0xB8 tag (answer.status.code :: answer.data)) :=
  (exec_answers (r := .supervise x i c a) hs rfl rfl h).trans rfl

section
variable {tag i command argument : Byte} {p : Pair} {s : State}

theorem ownSupervise_wrongState (hr : (s.pair p).role.name ≠ .holder) :
    ownSupervise tag (pairByte p) i command argument s = (s, .refused .wrongState) := by
  unfold ownSupervise
  rw [withPair_pairByte]
  exact if_pos hr

variable (hr : (s.pair p).role.name = .holder)
include hr

theorem ownSupervise_notFound (hi : (s.pair p).records.length < i.toNat) :
    ownSupervise tag (pairByte p) i command argument s = (s, .refused .notFound) := by
  unfold ownSupervise
  rw [withPair_pairByte]
  dsimp only
  rw [if_neg (not_not.mpr hr), if_pos hi]

variable (hi : i.toNat ≤ (s.pair p).records.length)
include hi

/-- A command or argument that R116 does not name, or a QUERY as a broadcast (R114). -/
theorem ownSupervise_badValue
    (h : ∀ x, commandOf command argument = some x → x.1 = .query ∧ i.toNat = 0) :
    ownSupervise tag (pairByte p) i command argument s = (s, .refused .badValue) := by
  unfold ownSupervise
  rw [withPair_pairByte]
  dsimp only
  rw [if_neg (not_not.mpr hr), if_neg (Nat.not_lt.mpr hi)]
  split
  · rfl
  next hc => exact if_pos (h _ hc)

variable {c : Command} {a : Nat} (hc : commandOf command argument = some (c, a)) (hbroad : ¬(c = .query ∧ i = 0))
include hc hbroad

theorem ownSupervise_named : ownSupervise tag (pairByte p) i command argument s =
    if s.queueRoom then ((s.enqueue (.host tag) p i.toNat c a).startNext, .accepted (u8 (s.queue.length + 1)))
    else (s, .refused .queueFull) := by
  have single : ¬(c = .query ∧ i.toNat = 0) := fun ⟨hq, hz⟩ => hbroad ⟨hq, BitVec.eq_of_toNat_eq hz⟩
  unfold ownSupervise
  rw [withPair_pairByte]
  dsimp only
  rw [if_neg (not_not.mpr hr), if_neg (Nat.not_lt.mpr hi), hc]
  exact if_neg single

end

/-- An entry that joins a queue in which nothing waits starts at once on a free tone field (R117, R118). -/
theorem State.enqueue_alone {s : State} {p : Pair} {tag : Byte} {i : Nat} {c : Command} {a : Nat} {r : RepeaterRecord}
    (idle : ∀ e ∈ s.queue, e.isWaiting = false ∧ e.isInFlight = false) (hr : (s.pair p).role.name = .holder)
    (loss : (s.pair p).det.lossDeclared = false) (tone : (s.pair p).tone = ⟨.free, []⟩)
    (hrec : recordAt (s.pair p).records i = some r) (hi : i ≠ 0) :
    (s.enqueue (.host tag) p i c a).startNext =
      { s.setPair p { s.pair p with tone := ⟨.commandFrame, []⟩ } with
        queue := s.queue ++ [⟨.inFlight
          ⟨r.address,
            some ⟨r.centre, ((r.centre : Int) + r.lastValidOffset.getD 0).toNat,
              max 1 ((r.lastLockedAmp.getD r.baseline).toNat / 2)⟩,
            (s.pair p).config.chipCode, (s.pair p).config.symbolTime, (s.pair p).config.turnaround,
            (s.pair p).config.replyBit, (s.pair p).config.checkMode⟩
          (.transmitting 1 0 false none), .host tag, p, i, c, a, (s.pair p).config.retries, 1⟩] } := by
  have grounded : ∀ x ∈ (s.enqueue (.host tag) p i c a).queue, x.isInFlight = false := fun x hx =>
    (List.mem_append.mp hx).elim (fun h => (idle x h).2) fun h => List.mem_singleton.mp h ▸ rfl
  have passed : ∀ x ∈ s.queue, (s.enqueue (.host tag) p i c a).eligible x = false := fun x hx => by
    simp [State.eligible, (idle x hx).1]
  have held : ({ (s.pair p).tone with use := .commandFrame } : ToneField) = ⟨.commandFrame, []⟩ := by rw [tone]
  have started := (State.startNext_first (after := []) grounded rfl passed (State.eligible_iff.mpr ⟨rfl, hr, loss⟩)
    (PairState.capture_eq (.inr ⟨r, hi, hrec, rfl, rfl⟩))).1 (congrArg ToneField.use tone)
  rw [← held]
  exact started

/-- Settles O34: the start is `startNext_first` with the captured values of `capture_eq`, and an accepted SUPERVISE decides
it on the queue that its entry has joined. -/
theorem superviseEnqueuesAndStarts : Obligations.SuperviseEnqueuesAndStarts := by
  refine ⟨fun s => ⟨?_, fun before after e address target hf hq hb he hcap => ?_⟩, fun tag i command argument p s hs =>
    ⟨fun hr => exec_supervise hs (ownSupervise_wrongState hr),
      fun hr hi => exec_supervise hs (ownSupervise_notFound hr hi), fun hr hi h => ?_, fun c a hr hi hc hbroad => ?_⟩⟩
  · rintro (⟨e, he, flies⟩ | none)
    · exact State.startNext_of_flight (List.find?_isSome.mpr ⟨e, he, flies⟩)
    · exact State.startNext_of_none fun e he => Bool.eq_false_iff.mpr (mt State.eligible_iff.mp (none e he))
  · exact State.startNext_first hf hq (fun x hx => Bool.eq_false_iff.mpr (mt State.eligible_iff.mp (hb x hx)))
      (State.eligible_iff.mpr he) (PairState.capture_eq hcap)
  · refine exec_supervise hs (ownSupervise_badValue hr hi fun x hx => ?_)
    rcases h with h | ⟨rfl, rfl, rfl⟩
    · rw [h] at hx
      cases hx
    · cases hx
      exact ⟨rfl, rfl⟩
  · have taken := ownSupervise_named (tag := tag) hr hi hc hbroad
    have joined (room : s.queue.length < 8) : exec (.supervise tag (pairByte p) i command argument) s = .next
        ((({ s with queue := s.queue ++ [⟨.waiting, .host tag, p, i.toNat, c, a, (s.pair p).config.retries, 0⟩] } :
          State).startNext).replied 0xB8 tag [1, BitVec.ofNat 8 (s.queue.length + 1)]) :=
      exec_supervise hs (taken.trans (if_pos (decide_eq_true room)))
    refine ⟨fun full => ?_, joined, fun room flies => ?_, fun r room idle loss tone hr' hi' => ?_⟩
    · exact exec_supervise hs (taken.trans (if_neg fun room => Nat.not_lt.mpr full (of_decide_eq_true room)))
    · rw [joined room, State.startNext_of_flight]
      obtain ⟨e, he⟩ := Option.isSome_iff_exists.mp flies
      simp [State.flight, List.find?_append, show s.queue.find? _ = some e from he]
    · exact (joined room).trans (congrArg (fun t : State => Host.Outcome.next (t.replied 0xB8 tag _))
        (State.enqueue_alone idle hr loss tone hr' fun hz => hi' (BitVec.eq_of_toNat_eq hz)))

end Sys2Proof.Machine
end

section
/-! Symbols, the frame's end and the drive error (R7, R119, R121, R122, R127 to R130). -/

namespace Sys2Proof.Machine

/-! ### Midpoints (R121) -/

/-- The symbol at whose end a mismatch stops: itself in the wake burst, the stop symbol of its byte after it (R192). -/
theorem stopSymbol_eq {j : Nat} (h : j ≤ 66) : stopSymbol j =
    if j ≤ 16 then j else if j ≤ 26 then 26 else if j ≤ 36 then 36 else if j ≤ 46 then 46 else if j ≤ 56 then 56 else 66 := by
  unfold stopSymbol
  split
  · rfl
  · split_ifs <;> omega

/-- The midpoint of the symbol being sent, or of the next one when that has been compared (R121). -/
theorem QueueEntry.midpoint_eq {e : QueueEntry} {c : Captured} {k n : Nat} {compared : Bool}
    (he : e.state = .inFlight c (.transmitting k n compared none)) (hk : compared = true → k < 66) (readback : Tone) :
    e.midpoint readback = { e with
      state := .inFlight c (compareAt e c readback (if compared then k + 1 else k) none) } := by
  unfold QueueEntry.midpoint
  rw [he]
  cases compared with
  | false => exact QueueEntry.withPhase_inFlight he _
  | true =>
    have more : lastOfFrame k none = false := by simp [lastOfFrame, hk rfl]
    simp only [more]
    exact QueueEntry.withPhase_inFlight he _

/-- Settles O36: the comparison is `compareAt` at the symbol that `midpoint_eq` names. -/
theorem midpointComparesReadback : Obligations.MidpointComparesReadback := by
  intro readback s before after e c k n compared hs hq hb he _ hk hmore
  have inFrame : (if compared then k + 1 else k) ≤ 66 := by
    cases compared with
    | false => exact hk
    | true => exact hmore rfl
  have sent : e.isTransmitting = true := by simp [QueueEntry.isTransmitting, he]
  have compare := State.modFlight_at
    (s := s.modPair e.pair fun q => { q with inputs := { q.inputs with readback := readback } })
    hq hb he (·.midpoint readback)
  refine (live_running hs (·.midpoint readback)).trans (congrArg (fun t : State => Host.Outcome.next t.transmit) ?_)
  unfold State.midpoint
  rw [State.flight_at hq hb he]
  dsimp only
  rw [if_pos sent, compare, QueueEntry.midpoint_eq he hmore, ← stopSymbol_eq inFrame]
  rfl

/-! ### The end of an exchange that asks nothing of the table (R128) -/

section
variable {s : State} {before after : List QueueEntry} {e : QueueEntry} {c : Captured} {ph : Phase}
  (hq : s.queue = before ++ e :: after) (hb : ∀ x ∈ before, x.isInFlight = false) (he : e.state = .inFlight c ph)
include hq hb he

/-- A host-origin entry stays in its place with its result. -/
theorem State.settle_host {tag : Byte} (ho : e.origin = .host tag) (x : ExchangeResult) (reply : List Byte) :
    s.settle e x reply = { s with queue := before ++ { e with state := .done x reply false } :: after } := by
  unfold State.settle
  split
  · exact State.modFlight_at hq hb he _
  next h => cases h.symm.trans ho

/-- A fault-origin entry leaves the queue and its result is delivered. -/
theorem State.settle_fault {id : Nat} (ho : e.origin = .fault id) (x : ExchangeResult) (reply : List Byte) :
    s.settle e x reply = ({ s with queue := before ++ after } : State).deliver id x reply := by
  unfold State.settle
  rw [ho, hq, dropFirst_of_split after hb (QueueEntry.isInFlight_of_state he)]

theorem State.endExchange_host {tag : Byte} (ho : e.origin = .host tag) (hr : (s.pair e.pair).role.name ≠ .yielding)
    {x : ExchangeResult} (hx : x ≠ .done) (reply : List Byte) :
    s.endExchange e x reply
      = ({ s with queue := before ++ { e with state := .done x reply false } :: after } : State).startNext := by
  have stays : (({ s with queue := before ++ { e with state := .done x reply false } :: after } : State).pair
    e.pair).role.name ≠ .yielding := hr
  rw [State.endExchange_of_not_done _ _ hx, State.settle_host hq hb he ho,
    State.reportExchangeEnd_of_not_yielding stays]

end

/-! ### The end of a transmission (R121, R122) -/

/-- A tone field that a command frame leaves to none of its kind (R7). -/
theorem State.releaseTone_to {s : State} {p : Pair} {use : ToneUse} {waiting : List ToneAsker}
    (ht : (s.pair p).tone = ⟨use, waiting⟩) (hw : ∀ rest, waiting ≠ .commandFrame :: rest) :
    s.releaseTone p = s.setPair p { s.pair p with tone := toneReleased ⟨use, waiting⟩ } := by
  rw [State.releaseTone_eq (by rw [ht]; exact hw), ← ht]
  rfl

/-- Settles O37: the tone field goes by `releaseTone_to`, the entry by `withPhase_at` or `endExchange_host`. -/
theorem transmissionEnds : Obligations.TransmissionEnds := by
  refine ⟨fun s before after e c n waiting hs hq hb he ht hw => ⟨fun x hx => ?_, fun tag hx ho hr => ?_⟩,
    fun s before after e c k n tag waiting hs hq hb he ht hw ho hr => ?_,
    fun s p tone left waiting ht => ⟨fun hl => ?_, fun hl hw => ?_, fun rest before after e c hl hw hq hb hp he => ?_⟩⟩
  · refine (live_running hs (·.frameEnd)).trans (congrArg (fun t : State => Host.Outcome.next t.transmit) ?_)
    unfold State.frameEnd
    rw [State.flight_at hq hb he]
    simp only [he, hx]
    rw [State.releaseTone_to ht hw]
    exact State.withPhase_at (s := s.setPair ..) hq hb he _
  · refine (live_running hs (·.frameEnd)).trans (congrArg (fun t : State => Host.Outcome.next t.transmit) ?_)
    unfold State.frameEnd
    rw [State.flight_at hq hb he]
    simp only [he, hx]
    rw [State.releaseTone_to ht hw]
    exact State.endExchange_host (s := s.setPair ..) hq hb he ho (by rwa [State.pair_setPair_same]) (by decide) []
  · refine (live_running hs (·.driveStop)).trans (congrArg (fun t : State => Host.Outcome.next t.transmit) ?_)
    unfold State.driveStop
    rw [State.flight_at hq hb he]
    simp only [he, if_true]
    rw [State.releaseTone_to ht hw]
    exact State.endExchange_host (s := (s.setPair ..).setPairFlag ..) hq hb he ho (by simpa using hr) (by decide) []
  · refine if_neg ?_
    simp [PairState.symbolOver, ht, hl]
  · unfold State.endLastSymbol
    rw [if_pos (by simp [PairState.symbolOver, ht, hl]), State.releaseTone_to ht hw]
  · subst hw
    have granted : s.releaseTone p =
        (s.modPair p fun q => { q with tone := ⟨.commandFrame, rest⟩ }).beginTransmission := by
      unfold State.releaseTone
      rw [ht]
    unfold State.endLastSymbol
    rw [if_pos (by simp [PairState.symbolOver, ht, hl]), granted]
    exact State.withPhase_at (s := s.modPair ..) hq hb he _

end Sys2Proof.Machine
end

section
/-! RECEPTION START (R36, R122, R123, R179): the times of a reply, and the window that it disturbs. -/

namespace Sys2Proof.Machine

/-! ### The times of a reply (R122, R123) -/

/-- From T0 to the deadline: the marker, the data, the check and one bit more (R123). -/
theorem Captured.replySpan_eq (c : Captured) (command : Command) :
    c.replySpan command = (if command = .query then 27 else 19) * c.replyBit * (16 * 2 ^ c.chipCode) := by
  cases command <;> rfl

theorem Captured.stampReply_eq (c : Captured) (command : Command) (frameEnd : LineTime) (now : Timebase) :
    c.stampReply command frameEnd now = ⟨frameEnd, ⟨now.seconds, now.fraction⟩,
      now.after ((if command = .query then 27 else 19) * c.replyBit * (16 * 2 ^ c.chipCode))⟩ := by
  rw [← Captured.replySpan_eq]
  rfl

/-- A cycle before T0 counts down, and stamps the times in the cycle in which T0 comes (R122). -/
theorem QueueEntry.tick_awaiting {e : QueueEntry} {c : Captured} {frameEnd : LineTime} {left : Nat}
    (he : e.state = .inFlight c (.awaitingReply frameEnd left)) (now : Timebase) :
    (e.tick now).state = .inFlight c
      (if left ≤ 1 then .replyDue (c.stampReply e.command frameEnd now) else .awaitingReply frameEnd (left - 1)) := by
  unfold QueueEntry.tick
  simp only [he]
  rw [QueueEntry.withPhase_inFlight he]

/-! ### The window (R36) -/

theorem BankLoad.disturb_windows (l : BankLoad) (i : Nat) : (l.disturb i).windows = l.windows.map fun w =>
    { w with disturbed := w.disturbed || decide (w.window.index = i) } := by
  unfold BankLoad.disturb
  refine List.map_congr_left fun w _ => ?_
  by_cases h : w.window.index = i <;> simp [h]

theorem Bank.disturbed_running {l : BankLoad} {done : Nat} {p : Pair} (hp : l.pair = p) (hd : done < l.periods)
    (i : Nat) : (Bank.running l done).disturbed p i = .running (l.disturb i) done := if_pos ⟨hp, hd⟩

theorem Bank.disturbed_of_not_runs {b : Bank} {p : Pair} (h : b.runs p = false) (i : Nat) : b.disturbed p i = b := by
  cases b with
  | running l done => exact if_neg fun ⟨hp, _⟩ => of_decide_eq_false h hp
  | _ => rfl

/-! ### The reception -/

/-- A reception begins with the times that its entry holds (R123). -/
theorem exec_receptionStart {s : State} {before after : List QueueEntry} {e : QueueEntry} {c : Captured} {ph : Phase}
    {times : ReplyTimes} (hs : s.inReset = false) (hq : s.queue = before ++ e :: after)
    (hb : ∀ x ∈ before, x.isInFlight = false) (he : e.state = .inFlight c ph)
    (ht : e.receptionTimes s.time = some times) (ha : (s.pair e.pair).atBoundary = true) :
    exec .receptionStart s = .next ({ s with
      queue := before ++ { e with state := .inFlight c (.receiving times [] 0 0) } :: after
      bank := s.bank.disturbed e.pair e.index } : State).transmit := by
  refine (live_running hs (·.receptionStart)).trans (congrArg (fun t : State => Host.Outcome.next t.transmit) ?_)
  unfold State.receptionStart
  rw [State.flight_at hq hb he]
  simp only [ht, ha, if_true]
  rw [State.withPhase_at hq hb he]

/-- Settles O38: the row is `exec_receptionStart`, the window `disturb_windows`, the stamps `stampReply_eq`. -/
theorem receptionStartMarksWindow : Obligations.ReceptionStartMarksWindow := by
  refine ⟨fun s before after e c ph times hs hq hb he hph ha => ?_,
    fun now e c => ⟨fun frameEnd left he => ?_, fun times he => ?_⟩⟩
  · have ht : e.receptionTimes s.time = some times := by
      unfold QueueEntry.receptionTimes
      rcases hph with rfl | ⟨frameEnd, left, rfl, rfl⟩
      · simp only [he]
      · simp only [he, Captured.stampReply_eq]
        rfl
    refine ⟨_, exec_receptionStart hs hq hb he ht ha, State.transmit_pairs _, ?_, fun l done hr hp hd => ?_,
      fun hr => ?_⟩
    · obtain ⟨before', after', lb, la, stays⟩ := State.transmit_keeps_place (s := { s with
        queue := before ++ { e with state := .inFlight c (.receiving times [] 0 0) } :: after
        bank := s.bank.disturbed e.pair e.index }) rfl (QueueEntry.noticeDue_of_inFlight rfl)
      exact ⟨before', after', stays, lb, la⟩
    · refine ⟨l.disturb e.index, ?_, rfl, rfl, l.disturb_windows _⟩
      rw [State.transmit_bank, hr]
      exact Bank.disturbed_running hp hd _
    · rw [State.transmit_bank]
      exact Bank.disturbed_of_not_runs hr _
  · rw [QueueEntry.tick_awaiting he, Captured.stampReply_eq]
  · unfold QueueEntry.tick
    simp only [he]

end Sys2Proof.Machine
end

section
/-! A whole reply decoded (R120, R123, R126), and what a result does to the sequence that asked for it (R141 to R148,
R151). -/

namespace Sys2Proof.Machine

/-! ### The check (R120) -/

theorem toNat_foldl_add (bs : List Byte) (x : Byte) :
    (bs.foldl (· + ·) x).toNat = (x.toNat + (bs.map (·.toNat)).sum) % 256 := by
  induction bs generalizing x with
  | nil => simp [Nat.mod_eq_of_lt x.isLt]
  | cons b bs ih =>
    rw [List.foldl_cons, ih, BitVec.toNat_add, List.map_cons, List.sum_cons]
    omega

/-- A check byte is the right one exactly where it brings the bytes it covers to a multiple of 256 (R120). -/
theorem eq_checkByte_iff (bs : List Byte) (check : Byte) :
    check = checkByte bs ↔ ((bs ++ [check]).map (·.toNat)).sum % 256 = 0 := by
  have total : (bs.foldl (· + ·) 0).toNat = (bs.map (·.toNat)).sum % 256 := by
    rw [toNat_foldl_add]
    simp
  have zero : (0 : Byte).toNat = 0 := rfl
  have bound := check.isLt
  rw [BitVec.toNat_eq, checkByte, BitVec.toNat_sub, total, zero, List.map_append, List.sum_append]
  simp only [List.map_cons, List.map_nil, List.sum_cons, List.sum_nil, Nat.reducePow]
  omega

/-! ### Bits and bytes (R123) -/

/-- The bits of a byte as a reply sends them, the most significant one first (R123). -/
def byteBits (b : Byte) : List Bool := (List.range 8).map fun i => b.getLsbD (7 - i)

theorem byteBits_length (b : Byte) : (byteBits b).length = 8 := by simp [byteBits]

theorem bitsValue_byteBits (b : Byte) : BitVec.ofNat 8 (bitsValue (byteBits b)) = b := by
  revert b
  decide

/-- The bytes that were sent are the bytes that are read. -/
theorem bitBytes_flatMap (bs : List Byte) (rest : List Bool) : bitBytes (bs.flatMap byteBits ++ rest) bs.length = bs := by
  induction bs with
  | nil => rfl
  | cons b bs ih =>
    have whole : (b :: bs).flatMap byteBits ++ rest = byteBits b ++ (bs.flatMap byteBits ++ rest) := by simp
    rw [whole, List.length_cons, bitBytes, List.take_left' (byteBits_length b), List.drop_left' (byteBits_length b),
      bitsValue_byteBits, ih]

theorem flatMap_byteBits_length (bs : List Byte) : (bs.flatMap byteBits).length = 8 * bs.length := by
  induction bs with
  | nil => rfl
  | cons b bs ih =>
    rw [List.flatMap_cons, List.length_append, ih, byteBits_length, List.length_cons]
    omega

/-! ### The reply (R126) -/

/-- A byte is given by its two halves. -/
theorem halves_iff (b l : Byte) (h : BitVec 4) (hl : l.toNat < 16) :
    b.extractLsb' 4 4 = h ∧ b.extractLsb' 0 4 = l.extractLsb' 0 4 ↔ b.toNat = 16 * h.toNat + l.toNat := by
  have bound := b.isLt
  simp only [BitVec.toNat_eq, BitVec.extractLsb'_toNat, Nat.shiftRight_eq_div_pow]
  omega

/-- What a sent reply reads back as (R123). -/
theorem bitBytes_reply {data : List Byte} (check : Byte) {n : Nat} (hl : data.length = n) :
    bitBytes ((data ++ [check]).flatMap byteBits) n = data
      ∧ bitBytes (((data ++ [check]).flatMap byteBits).drop (8 * n)) 1 = [check] := by
  subst hl
  rw [List.flatMap_append, List.drop_left' (flatMap_byteBits_length data)]
  exact ⟨bitBytes_flatMap data _, (congrArg (bitBytes · 1) (List.append_nil _)).symm.trans (bitBytes_flatMap [check] [])⟩

section
variable {e : QueueEntry} (c : Captured) {data : List Byte} {check : Byte} (hl : data.length = dataBits e.command / 8)
include hl

theorem decodeReply_checkError
    (h : ((checkedBytes c.checkMode c.address data ++ [check]).map (·.toNat)).sum % 256 ≠ 0) :
    decodeReply e c ((data ++ [check]).flatMap byteBits) = (.checkError, []) := by
  obtain ⟨dataRead, checkRead⟩ := bitBytes_reply check hl
  unfold decodeReply
  dsimp only
  rw [dataRead, checkRead]
  exact if_pos fun he => h ((eq_checkByte_iff _ _).mp (List.singleton_inj.mp he))

variable (h : ((checkedBytes c.checkMode c.address data ++ [check]).map (·.toNat)).sum % 256 = 0)
include h

theorem decodeReply_query (hc : e.command = .query) :
    decodeReply e c ((data ++ [check]).flatMap byteBits) = (.done, data) := by
  obtain ⟨dataRead, checkRead⟩ := bitBytes_reply check hl
  unfold decodeReply
  dsimp only
  rw [dataRead, checkRead, ← (eq_checkByte_iff _ _).mpr h, if_neg (not_not.mpr rfl), if_pos hc]

/-- The reply byte of another command, read by its two halves (R126). -/
theorem decodeReply_answer (hc : e.command ≠ .query) {b : Byte} (hd : data = [b]) :
    decodeReply e c ((data ++ [check]).flatMap byteBits) =
      if b.toNat = 0xA0 + e.command.code.toNat then (.done, [b])
      else if b.toNat = 0x50 + e.command.code.toNat then (.refused, [b])
      else (.badReply, []) := by
  obtain ⟨dataRead, checkRead⟩ := bitBytes_reply check hl
  have small : e.command.code.toNat < 16 := by cases e.command <;> decide
  have done : _ ↔ b.toNat = 0xA0 + e.command.code.toNat := halves_iff b e.command.code 0xA small
  have refused : _ ↔ b.toNat = 0x50 + e.command.code.toNat := halves_iff b e.command.code 0x5 small
  unfold decodeReply
  dsimp only
  rw [dataRead, checkRead, ← (eq_checkByte_iff _ _).mpr h, if_neg (not_not.mpr rfl), if_neg hc, hd,
    ← if_congr done rfl rfl, ← if_congr refused rfl rfl]
  dsimp only
  by_cases low : b.extractLsb' 0 4 = e.command.code.extractLsb' 0 4
  · by_cases ha : b.extractLsb' 4 4 = 0xA#4
    · simp [low, ha]
    · by_cases h5 : b.extractLsb' 4 4 = 0x5#4
      · simp [low, h5]
      · simp [ha, h5]
  · simp [low]

end

/-! ### Results that reach a sequence (R142 to R148, R151) -/

theorem pumpChoice_eq (w : Half) : pumpChoice w =
    if w.getLsbD 15 || w.getLsbD 14 then none
    else if w.getLsbD 13 = w.getLsbD 12 then none else some (if w.getLsbD 13 then 1 else 2) := by
  unfold pumpChoice
  split
  · rfl
  · cases w.getLsbD 13 <;> cases w.getLsbD 12 <;> rfl

section
variable {a : ActionPart} (s : State) (r : FaultRecord) (reply : List Byte)

theorem State.queryDone_ends (h : a.action ≠ .pumpRecovery) : s.queryDone r a reply
    = (s.storeStatus r (statusOf reply)).endSequence r .queried .confirmed := by
  unfold State.queryDone
  split
  · contradiction
  · rfl

variable (h : a.action = .pumpRecovery)
include h

theorem State.queryDone_noChoice (hn : pumpChoice (statusOf reply) = none) : s.queryDone r a reply
    = (s.storeStatus r (statusOf reply)).endSequence r .noPumpChoice .unresolved := by
  unfold State.queryDone
  simp only [h, hn]

theorem State.queryDone_choice {n : Nat} (hn : pumpChoice (statusOf reply) = some n) : s.queryDone r a reply
    = (s.storeStatus r (statusOf reply)).enqueueStep r .pumpSelect n .commanding := by
  unfold State.queryDone
  simp only [h, hn]

end

theorem State.withQueue_modFault (s : State) (es : List QueueEntry) (id : Nat) (f : FaultRecord → FaultRecord) :
    ({ s with queue := es } : State).modFault id f = { s.modFault id f with queue := es } := rfl

section
variable {s : State} {r : FaultRecord} {a : ActionPart} (hi : FaultListInv s) (hr : s.faultAt r.id = some r)
  (hs : r.state = .acting) (ha : r.action = some a)

section
include hr hs ha

theorem State.deliver_queryDone (hstep : a.step = .querying) (reply : List Byte) :
    s.deliver r.id .done reply = s.queryDone r a reply := by
  unfold State.deliver
  simp only [hr, hs, ha, hstep]

theorem State.deliver_commandDone (hstep : a.step = .commanding) (reply : List Byte) :
    s.deliver r.id .done reply = s.commandDone r a := by
  unfold State.deliver
  simp only [hr, hs, ha, hstep]

/-- Any other result ends the sequence (R147). -/
theorem State.deliver_ended (hstep : a.step = .querying ∨ a.step = .commanding) {x : ExchangeResult} (hx : x ≠ .done)
    (reply : List Byte) : s.deliver r.id x reply = s.endSequence r (.exchange x) .unresolved := by
  unfold State.deliver
  rcases hstep with hstep | hstep <;> simp only [hr, hs, ha, hstep]

end

include hi hr ha

theorem State.endSequence_eq (result : ActionResult) (state : FaultState) : s.endSequence r result state =
    (s.putFault { r with state := state, action := some { a with step := .done, result := result } }).setPairFlag
      r.pair .faultChange := by
  unfold State.endSequence
  rw [State.modFault_eq_putFault hi.distinct hr _ rfl, FaultRecord.modAction_of_action ha]

/-- The status word stored first does not show where the sequence ends with it (R142). -/
theorem State.storeStatus_endSequence (w : Half) (result : ActionResult) (state : FaultState) :
    (s.storeStatus r w).endSequence r result state = (s.putFault { r with
      state := state, action := some { a with step := .done, statusWord := some w, result := result } }).setPairFlag
      r.pair .faultChange := by
  unfold State.endSequence State.storeStatus
  rw [State.modFault_modFault _ _ _ fun x => x.modAction_id _, State.modFault_eq_putFault hi.distinct hr _ rfl,
    FaultRecord.modAction_of_action ha]
  rfl

/-- The step that follows takes the stored status word along (R143). -/
theorem State.storeStatus_modAction (w : Half) (f : ActionPart → ActionPart) :
    (s.storeStatus r w).modFault r.id (·.modAction f)
      = s.putFault { r with action := some (f { a with statusWord := some w }) } := by
  unfold State.storeStatus
  rw [State.modFault_modFault _ _ _ fun x => x.modAction_id _, State.modFault_eq_putFault hi.distinct hr _ rfl,
    FaultRecord.modAction_of_action ha]
  rfl

/-- With room in the queue the command of the next step joins it (R115, R143). -/
theorem State.storeStatus_enqueueStep (w : Half) (c : Command) (n : Nat) (f : CommandStep) (room : s.queue.length < 8) :
    (s.storeStatus r w).enqueueStep r c n f =
      { s.putFault { r with action := some { a with statusWord := some w, step := f.step } } with
        queue := s.queue ++ [⟨.waiting, .fault r.id, r.pair, r.first, c, n, (s.pair r.pair).config.retries, 0⟩] } := by
  have asked := State.storeStatus_modAction hi hr ha w fun a => { a with step := f.step }
  rcases (s.storeStatus r w).enqueueStep_cases r c n f with ⟨_, e⟩ | ⟨full, _⟩
  · rw [e, State.withQueue_modFault, asked]
    rfl
  · exact absurd room (Nat.not_lt.mpr full)

/-- With no room the step waits for the queue (R141). -/
theorem State.storeStatus_waits (w : Half) (c : Command) (n : Nat) (f : CommandStep) (full : 8 ≤ s.queue.length) :
    (s.storeStatus r w).enqueueStep r c n f =
      s.putFault { r with action := some { a with statusWord := some w, step := .waitingForQueue c n f } } := by
  rcases (s.storeStatus r w).enqueueStep_cases r c n f with ⟨room, _⟩ | ⟨_, e⟩
  · exact absurd room (Nat.not_lt.mpr full)
  · exact e.trans (State.storeStatus_modAction hi hr ha w fun a => { a with step := .waitingForQueue c n f })

end

/-- Settles O40: the bytes are read back by `bitBytes_reply`; a result is `deliver_eq`, its record written by
`endSequence_eq` or by the step that follows. -/
theorem replyDecodes : Obligations.ReplyDecodes := by
  refine ⟨fun bs => (eq_checkByte_iff bs _).mp rfl, fun e c data check hl => ?_, fun s id result reply hr => ?_,
    fun s id r a hi lo result reply inv hr hs ha => ?_⟩
  · exact ⟨decodeReply_checkError c hl, fun h =>
      ⟨decodeReply_query c hl h, fun b hc hd => decodeReply_answer c hl h hc hd⟩⟩
  · unfold State.deliver
    rw [hr]
  · obtain rfl : r.id = id := by simpa using List.find?_some hr
    refine ⟨fun hq hp => ?_, fun hq hp hn => ?_, fun n hq hp hn room => ?_, fun n hq hp hn full => ?_, fun hc hx => ?_,
      fun hc hx => ?_, fun h hx => ?_⟩
    · rw [State.deliver_queryDone hr hs ha hq, State.queryDone_ends s r [hi, lo] hp]
      exact State.storeStatus_endSequence inv hr ha _ _ _
    · rw [State.deliver_queryDone hr hs ha hq,
        State.queryDone_noChoice s r [hi, lo] hp ((pumpChoice_eq (half hi lo)).trans hn)]
      exact State.storeStatus_endSequence inv hr ha _ _ _
    · rw [State.deliver_queryDone hr hs ha hq,
        State.queryDone_choice s r [hi, lo] hp ((pumpChoice_eq (half hi lo)).trans hn)]
      exact State.storeStatus_enqueueStep inv hr ha _ _ _ _ room
    · rw [State.deliver_queryDone hr hs ha hq,
        State.queryDone_choice s r [hi, lo] hp ((pumpChoice_eq (half hi lo)).trans hn)]
      exact State.storeStatus_waits inv hr ha _ _ _ _ full
    · rw [State.deliver_commandDone hr hs ha hc, State.commandDone, hx]
      exact State.endSequence_eq inv hr ha _ _
    · have verifies : s.commandDone r a = s.enterVerifying r := by
        unfold State.commandDone
        split
        · contradiction
        · rfl
      rw [State.deliver_commandDone hr hs ha hc, verifies]
      exact State.modAction_eq_putFault inv hr ha _
    · rw [State.deliver_ended hr hs ha h hx]
      exact State.endSequence_eq inv hr ha _ _

end Sys2Proof.Machine
end

section
/-! REPLY BIT (R51, R119, R124 to R129, R162): the bit, the marker, the retry, and what the end of an exchange leaves. -/

namespace Sys2Proof.Machine

/-! ### The bit (R124) -/

/-- A reply bit against its threshold, without a quotient. -/
theorem replyBitValue_eq {c : Captured} {threshold : Nat} (hn : 1 ≤ c.replyBit) (ht : 1 ≤ threshold) (sum : Int) :
    replyBitValue c threshold sum = decide (2 * (c.replyBit : Int) * threshold ≤ 512 * sum + c.replyBit) := by
  unfold replyBitValue
  refine decide_eq_decide.mpr ?_
  unfold roundTiesAway
  dsimp only
  split
  next negative =>
    have product : (2 : Int) * c.replyBit * 1 ≤ 2 * c.replyBit * threshold :=
      Int.mul_le_mul_of_nonneg_left (by exact_mod_cast ht) (by omega)
    have quotient := Int.natCast_nonneg ((2 * (sum * 256).natAbs + c.replyBit) / (2 * c.replyBit))
    omega
  next positive =>
    have size : 2 * (sum * 256).natAbs + c.replyBit = (512 * sum + c.replyBit).toNat := by omega
    rw [Int.ofNat_le, Nat.le_div_iff_mul_le (by omega), size, Nat.mul_comm]
    have cast : ((2 * c.replyBit * threshold : Nat) : Int) = 2 * c.replyBit * threshold := by push_cast; ring
    omega

/-! ### The marker and the last check bit (R125) -/

section
variable {s : State} {before after : List QueueEntry} {e : QueueEntry} {c : Captured} {x : CapturedTarget}
  {times : ReplyTimes} {bits : List Bool} {sum : Int} {n : Nat} (hs : s.inReset = false)
  (hq : s.queue = before ++ e :: after) (hb : ∀ y ∈ before, y.isInFlight = false) (hx : c.target = some x)
  (he : e.state = .inFlight c (.receiving times bits sum n)) (hn : c.replyBit ≤ n) (h1 : 1 ≤ c.replyBit)
  (ht : 1 ≤ x.threshold)
include hs hq hb hx he hn h1 ht

/-- A bit that has had its last chip joins the bits read. -/
theorem exec_replyBit : exec .replyBit s = .next (s.judgeBits e c times
    (bits ++ [decide (2 * (c.replyBit : Int) * x.threshold ≤ 512 * sum + c.replyBit)])).transmit := by
  have due : e.bitDue = true := by simpa [QueueEntry.bitDue, he] using hn
  refine (live_running hs (·.replyBit)).trans (congrArg (fun t : State => Host.Outcome.next t.transmit) ?_)
  unfold State.replyBit
  rw [State.flight_at hq hb he]
  simp only [he, due, if_true, hx]
  rw [← replyBitValue_eq h1 ht]
  rfl

end

section
variable {s : State} {e : QueueEntry} {c : Captured} {times : ReplyTimes} {bits : List Bool}

theorem State.judgeBits_more (hm : bits.length = 2 → bits = [true, false])
    (hl : bits.length < 2 + dataBits e.command + 8) :
    s.judgeBits e c times bits = s.modFlight (·.withPhase (.receiving times bits 0 0)) := by
  unfold State.judgeBits
  rw [if_neg fun h => h.2 (hm h.1), if_neg (Nat.ne_of_lt hl)]

/-- A marker that is not 1, 0 ends the attempt, and so does the last check bit. -/
theorem State.judgeBits_ends {result : ExchangeResult} {reply : List Byte}
    (h : (bits.length = 2 ∧ bits ≠ [true, false] ∧ result = .noReply ∧ reply = [])
      ∨ (bits.length = 2 + dataBits e.command + 8 ∧ decodeReply e c (bits.drop 2) = (result, reply))) :
    s.judgeBits e c times bits = s.endAttempt e result reply := by
  unfold State.judgeBits
  rcases h with ⟨hl, hm, rfl, rfl⟩ | ⟨hl, hd⟩
  · exact if_pos ⟨hl, hm⟩
  · rw [if_neg (by omega), if_pos hl, hd]

end

/-! ### The retry (R127) -/

theorem ExchangeResult.retryable_eq (x : ExchangeResult) :
    x.retryable = decide (x ∈ [ExchangeResult.noReply, .checkError, .badReply]) := by cases x <;> rfl

theorem State.retries_eq (s : State) (e : QueueEntry) (x : ExchangeResult) : s.retries e x =
    (decide (x ∈ [ExchangeResult.noReply, .checkError, .badReply]) && decide (1 ≤ e.retries)
      && decide ((s.pair e.pair).role.name = .holder) && !(s.pair e.pair).det.lossDeclared) := by
  rw [← ExchangeResult.retryable_eq]
  rfl

section
variable {s : State} {before after : List QueueEntry} {e : QueueEntry} {c : Captured} {ph : Phase}
  {result : ExchangeResult} (reply : List Byte)
  (hq : s.queue = before ++ e :: after) (hb : ∀ y ∈ before, y.isInFlight = false) (he : e.state = .inFlight c ph)
  (again : s.retries e result = true)
include hq hb he again

/-- The new attempt counts, and asks for the tone field. -/
theorem State.endAttempt_again : s.endAttempt e result reply = ({ s with queue := before
    ++ { e with retries := e.retries - 1, attempts := e.attempts + 1 } :: after } : State).askTone e.pair := by
  unfold State.endAttempt
  rw [if_pos again, State.modFlight_at hq hb he]

theorem State.endAttempt_free (hf : (s.pair e.pair).tone = ⟨.free, []⟩) : s.endAttempt e result reply =
    { s.setPair e.pair { s.pair e.pair with tone := ⟨.commandFrame, []⟩ } with
      queue := before ++ { e with
        retries := e.retries - 1, attempts := e.attempts + 1
        state := .inFlight c (.transmitting 1 0 false none) } :: after } := by
  have held : ({ (s.pair e.pair).tone with use := .commandFrame } : ToneField) = ⟨.commandFrame, []⟩ := by rw [hf]
  rw [State.endAttempt_again reply hq hb he again, ← held]
  exact State.askTone_free (s := { s with queue := _ }) (e := { e with retries := _, attempts := _ }) rfl hb he
    (congrArg ToneField.use hf)

theorem State.endAttempt_held (hf : (s.pair e.pair).tone.use ≠ .free) : s.endAttempt e result reply =
    { s.setPair e.pair { s.pair e.pair with
        tone := { (s.pair e.pair).tone with waiting := (s.pair e.pair).tone.waiting ++ [.commandFrame] } } with
      queue := before ++ { e with
        retries := e.retries - 1, attempts := e.attempts + 1, state := .inFlight c .toneWait } :: after } := by
  rw [State.endAttempt_again reply hq hb he again]
  exact State.askTone_held (s := { s with queue := _ }) (e := { e with retries := _, attempts := _ }) rfl hb he hf

end

theorem State.endAttempt_ends {s : State} {e : QueueEntry} {result : ExchangeResult} (h : s.retries e result = false)
    (reply : List Byte) : s.endAttempt e result reply = s.endExchange e result reply := if_neg (by simp [h])

/-! ### The table effect (R51, R129) -/

theorem State.tableEffect_role (s : State) (e : QueueEntry) (p : Pair) :
    ((s.tableEffect e).pair p).role = (s.pair p).role := by
  have written (f : List RepeaterRecord → List RepeaterRecord) :
      ((s.modPair e.pair fun q => { q with records := f q.records }).pair p).role = (s.pair p).role :=
    State.forall_pair_setPair (R := fun q q' => q'.role = q.role) (fun _ => rfl) (by rfl) p
  have restored : ((s.unmuteRecord e.pair e.index).pair p).role = (s.pair p).role :=
    ((State.considerSweep_kept _ e.pair).pair p).role.trans (written fun rs => modRecord rs e.index RepeaterRecord.unmute)
  unfold State.tableEffect
  split
  · exact written fun rs => modRecord rs e.index RepeaterRecord.mute
  · exact restored
  · exact restored
  · rfl

theorem State.tableEffect_mute {e : QueueEntry} (hc : e.command = .loopbackMute) (ha : e.argument = 1) (s : State) :
    s.tableEffect e = s.muteRecord e.pair e.index := by
  unfold State.tableEffect
  simp only [hc, ha]

theorem State.tableEffect_restore {e : QueueEntry}
    (h : e.command = .loopbackMute ∧ e.argument = 0 ∨ e.command = .release) (s : State) :
    s.tableEffect e = s.unmuteRecord e.pair e.index := by
  unfold State.tableEffect
  rcases h with ⟨hc, ha⟩ | hc
  · simp only [hc, ha]
  · simp only [hc]

theorem State.tableEffect_none {e : QueueEntry} (hm : ¬(e.command = .loopbackMute ∧ e.argument = 1))
    (hr : ¬(e.command = .loopbackMute ∧ e.argument = 0 ∨ e.command = .release)) (s : State) : s.tableEffect e = s := by
  unfold State.tableEffect
  split
  next hc ha => exact absurd ⟨hc, ha⟩ hm
  next hc ha => exact absurd (.inl ⟨hc, ha⟩) hr
  next hc => exact absurd (.inr hc) hr
  · rfl

/-- A mute leaves a record that is excluded already as it is (R51). -/
theorem modRecord_mute (rs : List RepeaterRecord) (i : Nat) : modRecord rs i RepeaterRecord.mute = rs.map fun r =>
    if r.index = i ∧ r.excluded = false then { r with excluded := true, excludedByMute := true } else r := by
  refine List.map_congr_left fun r _ => ?_
  unfold RepeaterRecord.mute
  by_cases hi : r.index = i
  · cases r.excluded <;> simp [hi]
  · simp [hi]

/-- A restore acts on a record that a mute has excluded, and on no other (R51). -/
theorem modRecord_unmute (rs : List RepeaterRecord) (i : Nat) : modRecord rs i RepeaterRecord.unmute = rs.map fun r =>
    if r.index = i ∧ r.excludedByMute = true ∧ r.excluded = true then
      { r.fresh with excluded := false, edits := r.edits }
    else r := by
  refine List.map_congr_left fun r _ => ?_
  unfold RepeaterRecord.unmute RepeaterRecord.restore
  by_cases hi : r.index = i
  · cases r.excludedByMute
    · simp [hi]
    · cases r.excluded <;> simp [hi]
  · simp [hi]

/-- What the table does leaves the queue and the port (R51, R66). -/
theorem State.considerSweep_queue_port (s : State) (p : Pair) :
    (s.considerSweep p).queue = s.queue ∧ (s.considerSweep p).port = s.port := by
  have planned : (s.planSweep false p).queue = s.queue ∧ (s.planSweep false p).port = s.port := by
    rcases s.planSweep_cases false p with h | ⟨_, _, h⟩ <;> rw [h] <;> exact ⟨rfl, rfl⟩
  unfold State.considerSweep
  rcases (s.planSweep false p).arbitrate_cases with h | ⟨_, _, _, _, _, h⟩ <;> rw [h] <;> exact planned

/-- A pair that may sweep has a sweep once it has been considered (R66). -/
theorem State.considerSweep_isSome {s : State} {p : Pair} (h : (s.pair p).maySweep = true) :
    ((s.considerSweep p).pair p).sweep.isSome = true := by
  unfold State.considerSweep
  rw [State.arbitrate_sweep_isSome]
  exact State.planSweep_isSome h false

/-- What the transmitter does to the queue follows from the queue and the port alone (R172). -/
theorem State.transmit_queue_congr {s t : State} (hq : t.queue = s.queue) (hp : t.port = s.port) :
    t.transmit.queue = s.transmit.queue := by
  unfold State.transmit
  rw [hq, hp]
  split
  · split
    · exact hq
    · split
      · rfl
      · split
        · rfl
        · exact hq
  · exact hq

theorem State.tableEffect_queue_port (s : State) (e : QueueEntry) :
    (s.tableEffect e).queue = s.queue ∧ (s.tableEffect e).port = s.port := by
  unfold State.tableEffect
  split
  · exact ⟨rfl, rfl⟩
  · exact State.considerSweep_queue_port ..
  · exact State.considerSweep_queue_port ..
  · exact ⟨rfl, rfl⟩

/-- The table is asked by a DONE alone, and only by a command that mutes or restores (R129). -/
theorem State.tableEffect_idle {e : QueueEntry} {result : ExchangeResult}
    (hm : (decide (result = .done) && decide (e.command = .loopbackMute) && decide (e.argument = 1)) = false)
    (hr : (decide (result = .done) && ((decide (e.command = .loopbackMute) && decide (e.argument = 0))
      || decide (e.command = .release))) = false) (s : State) :
    (if result = .done then s.tableEffect e else s) = s := by
  split
  next hd =>
    simp only [hd, decide_true, Bool.true_and, Bool.and_eq_false_iff, Bool.or_eq_false_iff,
      decide_eq_false_iff_not] at hm hr
    exact State.tableEffect_none (by tauto) (by tauto) s
  · rfl

/-! ### The end of an exchange (R117, R128, R162) -/

theorem State.endExchange_of_not_yielding {s : State} {e : QueueEntry} (hr : (s.pair e.pair).role.name ≠ .yielding)
    (x : ExchangeResult) (reply : List Byte) : s.endExchange e x reply =
      (if x = .done then (s.settle e x reply).tableEffect e else s.settle e x reply).startNext := by
  unfold State.endExchange
  dsimp only
  rw [State.reportExchangeEnd_of_not_yielding]
  rwa [(s.settle_kept e x reply).pair]

/-- The guard of a yield learns of the end of its exchange (R162). -/
theorem State.endExchange_yielding {s : State} {e : QueueEntry} {m : YieldMode} {pass : Bool}
    (hr : (s.pair e.pair).role = .yielding m pass true) (x : ExchangeResult) (reply : List Byte) :
    ((s.endExchange e x reply).pair e.pair).role = if pass then .yielding m true false else .listen := by
  have settled : ((s.settle e x reply).pair e.pair).role = .yielding m pass true := by
    rw [(s.settle_kept e x reply).pair, hr]
  have reported : (((s.settle e x reply).reportExchangeEnd e.pair).pair e.pair).role
      = if pass then .yielding m true false else .listen := by
    unfold State.reportExchangeEnd
    rw [settled]
    cases pass with
    | false => exact congrArg PairState.role (State.pair_finishYield_same ..)
    | true =>
      show (((s.settle e x reply).modPair e.pair fun q =>
        { q with role := .yielding m true false }).pair e.pair).role = _
      rw [State.pair_modPair_same]
      rfl
  unfold State.endExchange
  dsimp only
  rw [(State.startNext_kept _ |>.pair e.pair).role]
  split
  · rw [State.tableEffect_role, reported]
  · exact reported

section
variable {s : State} {before after : List QueueEntry} {e : QueueEntry} {c : Captured} {ph : Phase} {tag : Byte}
  (result : ExchangeResult) (reply : List Byte)
  (hq : s.queue = before ++ e :: after) (hb : ∀ y ∈ before, y.isInFlight = false) (he : e.state = .inFlight c ph)
  (ho : e.origin = .host tag) (hr : (s.pair e.pair).role.name ≠ .yielding)
  (idle : ∀ y ∈ before ++ after, y.isWaiting = false)
include hq hb he ho hr idle

/-- Where no other entry waits, the end of a host-origin exchange is its result and its table effect (R128, R129). -/
theorem State.endExchange_alone : s.endExchange e result reply =
    if result = .done then
      ({ s with queue := before ++ { e with state := .done result reply false } :: after } : State).tableEffect e
    else { s with queue := before ++ { e with state := .done result reply false } :: after } := by
  have none {t : State} (ht : t.queue = before ++ { e with state := .done result reply false } :: after) :
      t.startNext = t := by
    refine State.startNext_of_none fun y hy => ?_
    rw [ht, List.mem_append, List.mem_cons] at hy
    have still : y.isWaiting = false := by
      rcases hy with hy | rfl | hy
      · exact idle y (List.mem_append_left _ hy)
      · rfl
      · exact idle y (List.mem_append_right _ hy)
    simp [State.eligible, still]
  rw [State.endExchange_of_not_yielding hr, State.settle_host hq hb he ho]
  split
  · exact none (State.tableEffect_queue_port ..).1
  · exact none rfl

end

/-- What a restored record leaves of its pair: the records, the role, and a sweep if the pair may sweep (R51, R66). -/
theorem State.unmuteRecord_spec (s : State) (p : Pair) (i : Nat) :
    ((s.unmuteRecord p i).pair p).records = modRecord (s.pair p).records i RepeaterRecord.unmute
      ∧ ((s.unmuteRecord p i).pair p).role = (s.pair p).role
      ∧ (((s.pair p).role.name = .holder ∨ (s.pair p).role = .synthetic) → (s.pair p).det.lossDeclared = false →
          (∃ r ∈ ((s.unmuteRecord p i).pair p).records, r.excluded = false) →
          ((s.unmuteRecord p i).pair p).sweep.isSome = true) := by
  have kept := (State.considerSweep_kept (s.modPair p fun q =>
    { q with records := modRecord q.records i RepeaterRecord.unmute }) p).pair p
  rw [State.pair_modPair_same] at kept
  refine ⟨kept.records, kept.role, fun able loss active => State.considerSweep_isSome ?_⟩
  rw [State.pair_modPair_same]
  unfold State.unmuteRecord at active
  rw [kept.records] at active
  exact PairState.maySweep_iff.mpr ⟨able, loss, active⟩

/-- Settles O39: a bit is `exec_replyBit`, a retry `endAttempt_free` or `endAttempt_held`, an end `endExchange_alone` for
a host-origin entry, `settle_fault` for a fault-origin one and `endExchange_yielding` for a pair that yields. -/
theorem replyBitJudgesAndRetries : Obligations.ReplyBitJudgesAndRetries := by
  intro s before after e c x times bits sum n hs hq hb hx he hn h1 ht
  have row := exec_replyBit hs hq hb hx he hn h1 ht
  refine ⟨fun hl hm => ?_, fun result reply hresult => ?_⟩
  · rw [row, State.judgeBits_more hm hl, State.withPhase_at hq hb he]
  · have ended : exec .replyBit s = .next (s.endAttempt e result reply).transmit :=
      row.trans (congrArg (fun t : State => Host.Outcome.next t.transmit) (State.judgeBits_ends hresult))
    dsimp only
    rw [← State.retries_eq]
    refine ⟨fun again tone => ?_, fun again tone => ?_, fun tag again ho hr idle => ?_, fun id again ho hr => ?_,
      fun m pass again hr => ?_⟩
    · rw [ended, State.endAttempt_free reply hq hb he again tone]
    · rw [ended, State.endAttempt_held reply hq hb he again tone]
    · rw [State.endAttempt_ends again,
        State.endExchange_alone result reply hq hb he ho hr fun y hy => (idle y hy).1] at ended
      refine ⟨fun hmute hrestore => ?_, fun hmute => ?_, fun hrestore => ?_⟩
      · rw [ended, State.tableEffect_idle hmute hrestore]
      · simp only [Bool.and_eq_true, decide_eq_true_eq] at hmute
        obtain ⟨⟨hd, hc⟩, ha⟩ := hmute
        rw [ended, if_pos hd, State.tableEffect_mute hc ha]
        simp only [State.muteRecord, modRecord_mute]
        rfl
      · simp only [Bool.and_eq_true, Bool.or_eq_true, decide_eq_true_eq] at hrestore
        obtain ⟨hd, hcommand⟩ := hrestore
        rw [if_pos hd, State.tableEffect_restore hcommand] at ended
        obtain ⟨records, role, swept⟩ := State.unmuteRecord_spec ({ s with
          queue := before ++ { e with state := .done result reply false } :: after } : State) e.pair e.index
        obtain ⟨queue, port⟩ := State.tableEffect_queue_port ({ s with
          queue := before ++ { e with state := .done result reply false } :: after } : State) e
        rw [State.tableEffect_restore hcommand] at queue port
        refine ⟨_, ended, State.transmit_queue_congr queue port, ?_, ?_, ?_⟩ <;> rw [State.pair_transmit]
        · rw [records, modRecord_unmute]
          rfl
        · exact role
        · exact swept
    · rw [State.endAttempt_ends again, State.endExchange_of_not_yielding hr, State.settle_fault hq hb he ho] at ended
      refine ⟨_, ended, ?_, fun hrestore hmute => ?_⟩
      · rw [State.transmit_faults, (State.startNext_sameFaults _).faults]
        split
        · exact (State.tableEffect_sameFaults _ e).faults
        · rfl
      · rw [State.tableEffect_idle hmute hrestore]
    · rw [State.endAttempt_ends again] at ended
      refine ⟨_, ended, ?_⟩
      rw [State.pair_transmit]
      exact State.endExchange_yielding hr result reply

end Sys2Proof.Machine
end

section
/-! ISOLATE and RELEASE ISOLATION (R139, R148): the checks of both requests, and the sequence that each starts where the queue
has room (R97, R140, R141). -/

namespace Sys2Proof.Machine

/-! ### The record of an id after an update -/

/-- An update that keeps the ids reaches the record that its id finds. -/
theorem State.faultAt_modFault_same (s : State) (id : Nat) {f : FaultRecord → FaultRecord} (hf : ∀ r, (f r).id = r.id) :
    (s.modFault id f).faultAt id = (s.faultAt id).map f := by
  have found : ((fun r : FaultRecord => r.id == id) ∘ fun r => if r.id = id then f r else r) = fun r => r.id == id := by
    funext r
    by_cases h : r.id = id <;> simp [h, hf]
  unfold State.faultAt State.modFault
  rw [List.find?_map, found]
  refine Option.map_congr fun r hr => if_pos ?_
  simpa using List.find?_some hr

/-- The record that an id finds has that id. -/
theorem State.id_of_faultAt {s : State} {id : Nat} {r : FaultRecord} (h : s.faultAt id = some r) : r.id = id := by
  simpa using List.find?_some h

/-! ### What the next start leaves of the queue (R117, R119) -/

/-- What an entry asks for: on whose behalf, of which repeater of which pair, and which command (R113). -/
def QueueEntry.asked (e : QueueEntry) : Origin × Pair × Nat × Command × Nat :=
  (e.origin, e.pair, e.index, e.command, e.argument)

theorem QueueEntry.withPhase_asked (e : QueueEntry) (ph : Phase) : (e.withPhase ph).asked = e.asked := by
  unfold QueueEntry.withPhase
  split <;> rfl

theorem map_modFirst {α β : Type} (fits : α → Bool) {f : α → α} {g : α → β} (hf : ∀ x, g (f x) = g x) (xs : List α) :
    (modFirst fits f xs).map g = xs.map g := by
  induction xs with
  | nil => rfl
  | cons x xs ih => by_cases h : fits x = true <;> simp [modFirst, h, hf, ih]

theorem State.askTone_asked (s : State) (p : Pair) :
    (s.askTone p).queue.map QueueEntry.asked = s.queue.map QueueEntry.asked := by
  rcases s.askTone_cases p with ⟨_, h⟩ | ⟨_, h⟩ <;> rw [h]
  · exact map_modFirst _ (fun e => e.withPhase_asked _) _
  · exact map_modFirst _ (fun e => e.withPhase_asked _) _

/-- The next start changes neither which entries the queue holds nor what they ask for. -/
theorem State.startNext_asked (s : State) : s.startNext.queue.map QueueEntry.asked = s.queue.map QueueEntry.asked := by
  rcases s.startNext_cases with h | ⟨e, _, _, h⟩ <;> rw [h]
  exact (State.askTone_asked _ e.pair).trans 
    (map_modFirst s.eligible (f := fun e => e.start ((s.pair e.pair).capture e.index)) (fun _ => rfl) s.queue)

/-! ### A sequence that begins (R97, R140, R141) -/

/-- A record whose sequence has begun: ACTING with a fresh action part (R140, R148). -/
def FaultRecord.begun (r : FaultRecord) (action : Action) (origin : ActionOrigin) (step : Step)
    (statusWord : Option Half) : FaultRecord :=
  { r with state := .acting, action := some ⟨action, origin, step, statusWord, 0, .pending⟩ }

/-- A sequence of a record has begun for the host: the record is ACTING with a fresh action part in the step of the first
command, that command's entry has joined the queue, FAULT CHANGE is set, and no reply has been sent. -/
structure SequenceBegun (s t : State) (r : FaultRecord) (action : Action) (statusWord : Option Half) (c : Command)
    (n : Nat) (f : CommandStep) : Prop where
  record : t.faultAt r.id = some (r.begun action .host f.step statusWord)
  queue : t.queue.map QueueEntry.asked = s.queue.map QueueEntry.asked ++ [(.fault r.id, r.pair, r.first, c, n)]
  faultChange : (t.port.flags.pairs.get r.pair).faultChange = true
  replies : t.port.replies = s.port.replies

section
variable {s t : State} {r : FaultRecord} {action : Action} {w : Option Half} {c : Command} {n : Nat} {f : CommandStep}

/-- With room the record becomes ACTING in the step of its first command, whose entry joins the queue. -/
theorem State.startSequence_room (hc : firstCommand action = (c, n, f)) (room : s.queue.length < 8)
    (origin : ActionOrigin) :
    s.startSequence r action origin w =
      ({ s with queue := s.queue ++ [s.sequenceEntry r c n] }.modFault r.id
        (·.begun action origin f.step w)).setPairFlag r.pair .faultChange := by
  have asks : s.startSequence r action origin w = (s.becomeActing r action origin w).enqueueStep r c n f := by
    unfold State.startSequence
    rw [hc]
  rcases (s.becomeActing r action origin w).enqueueStep_cases r c n f with ⟨_, joined⟩ | ⟨full, _⟩
  · have stepped := State.modFault_modFault { s with queue := s.queue ++ [s.sequenceEntry r c n] } r.id
      (f := (·.begun action origin (firstCommand action).2.2.step w)) (·.modAction fun a => { a with step := f.step })
      fun _ => rfl
    rw [asks, joined]
    exact congrArg (·.setPairFlag r.pair .faultChange) stepped
  · exact absurd room (Nat.not_lt.mpr full)

/-- Such a start is the beginning of a sequence, whatever the ids of the other records. -/
theorem State.startSequence_begun (hr : s.faultAt r.id = some r) (hc : firstCommand action = (c, n, f))
    (room : s.queue.length < 8) : SequenceBegun s (s.startSequence r action .host w) r action w c n f := by
  rw [State.startSequence_room hc room]
  refine ⟨?_, List.map_append, State.setPairFlag_get_same _ r.pair .faultChange, rfl⟩
  refine (State.faultAt_modFault_same _ r.id (f := (·.begun action .host f.step w)) fun _ => rfl).trans ?_
  exact congrArg (Option.map _) hr

/-- The next start leaves all of it as it stands (R117). -/
theorem SequenceBegun.startNext (h : SequenceBegun s t r action w c n f) :
    SequenceBegun s t.startNext r action w c n f where
  record := by
    have same : t.startNext.faultAt r.id = t.faultAt r.id := by
      unfold State.faultAt
      rw [t.startNext_sameFaults.faults]
    exact same.trans h.record
  queue := t.startNext_asked.trans h.queue
  faultChange := t.startNext_kept.flags r.pair .faultChange h.faultChange
  replies := t.startNext_kept.replies.trans h.replies

theorem SequenceBegun.queue_length (h : SequenceBegun s t r action w c n f) : t.queue.length = s.queue.length + 1 := by
  simpa using congrArg List.length h.queue

theorem SequenceBegun.entry (h : SequenceBegun s t r action w c n f) : ∃ e ∈ t.queue,
    e.origin = .fault r.id ∧ e.pair = r.pair ∧ e.index = r.first ∧ e.command = c ∧ e.argument = n := by
  have joined : (Origin.fault r.id, r.pair, r.first, c, n) ∈ t.queue.map QueueEntry.asked := by simp [h.queue]
  obtain ⟨e, he, asked⟩ := List.mem_map.mp joined
  exact ⟨e, he, by simpa [QueueEntry.asked] using asked⟩

/-- A sequence asked for by the host begins, and the answer names its record and its step (R139, R148). -/
theorem State.hostSequence_room {id : Half} (hr : s.faultAt id.toNat = some r) (hc : firstCommand action = (c, n, f))
    (room : s.queue.length < 8) : ∃ u, s.hostSequence id r action w = (u, .accepted (be16 id ++ [f.step.code]))
      ∧ SequenceBegun s u r action w c n f := by
  have hid := State.id_of_faultAt hr
  have begun := State.startSequence_begun (w := w) (hid ▸ hr) hc room
  refine ⟨_, Prod.ext rfl ?_, begun.startNext⟩
  have record := begun.record
  rw [hid] at record
  unfold State.hostSequence acceptedStep
  dsimp only
  rw [record]
  rfl

end

/-! ### The checks (R139, R148) -/

section
variable {tag action : Byte} {id : Half} {s t : State} {answer : Answer} {r : FaultRecord}

theorem exec_isolate (hs : s.Ready) (ho : ownIsolate id action s = (t, answer)) :
    exec (.isolate tag id action) s = .next (t.replied 0xB3 tag (answer.status.code :: answer.data)) :=
  exec_answers (r := .isolate id action) hs rfl rfl ho

theorem exec_releaseIsolation (hs : s.Ready) (ho : ownReleaseIsolation id s = (t, answer)) :
    exec (.releaseIsolation tag id) s = .next (t.replied 0xB4 tag (answer.status.code :: answer.data)) :=
  exec_answers (r := .releaseIsolation id) hs rfl rfl ho

theorem ownIsolate_notFound (h : id = 0 ∨ s.faultAt id.toNat = none) :
    ownIsolate id action s = (s, .refused .notFound) := by
  unfold ownIsolate
  split
  · rfl
  next hid => rw [h.resolve_left (mt half_toNat_eq_zero.mpr hid)]

theorem ownReleaseIsolation_notFound (h : id = 0 ∨ s.faultAt id.toNat = none) :
    ownReleaseIsolation id s = (s, .refused .notFound) := by
  unfold ownReleaseIsolation
  split
  · rfl
  next hid => rw [h.resolve_left (mt half_toNat_eq_zero.mpr hid)]

variable (hid : id ≠ 0) (hr : s.faultAt id.toNat = some r)
include hid hr

/-- The state of the record and the role of its pair are examined alike (R139). -/
theorem ownIsolate_wrongState
    (h : (r.state ≠ .confirmed ∧ r.state ≠ .unresolved) ∨ (s.pair r.pair).role.name ≠ .holder) :
    ownIsolate id action s = (s, .refused .wrongState) := by
  unfold ownIsolate
  rw [if_neg (mt half_toNat_eq_zero.mp hid), hr]
  dsimp only
  split_ifs with state role
  · rfl
  · rfl
  · exact absurd h (not_or.mpr ⟨state, role⟩)

theorem ownReleaseIsolation_wrongState
    (h : (r.state ≠ .isolated ∧ r.state ≠ .unresolved) ∨ (s.pair r.pair).role.name ≠ .holder) :
    ownReleaseIsolation id s = (s, .refused .wrongState) := by
  unfold ownReleaseIsolation
  rw [if_neg (mt half_toNat_eq_zero.mp hid), hr]
  dsimp only
  split_ifs with state role
  · rfl
  · rfl
  · exact absurd h (not_or.mpr ⟨state, role⟩)

variable (holder : (s.pair r.pair).role.name = .holder)
include holder

theorem ownReleaseIsolation_taken (hstate : r.state = .isolated ∨ r.state = .unresolved) :
    ownReleaseIsolation id s = s.hostSequence id r .release (r.action.bind (·.statusWord)) := by
  unfold ownReleaseIsolation
  rw [if_neg (mt half_toNat_eq_zero.mp hid), hr]
  dsimp only
  rw [if_neg (not_and_or.mpr (hstate.imp not_not.mpr not_not.mpr)), if_neg (not_not.mpr holder)]

variable (hstate : r.state = .confirmed ∨ r.state = .unresolved)
include hstate

/-- A byte that names no action of R139. -/
theorem ownIsolate_unnamed (ha : isolateAction action = none) : ownIsolate id action s = (s, .refused .badValue) := by
  unfold ownIsolate
  rw [if_neg (mt half_toNat_eq_zero.mp hid), hr]
  dsimp only
  rw [if_neg (not_and_or.mpr (hstate.imp not_not.mpr not_not.mpr)), if_neg (not_not.mpr holder), ha]

/-- Past the state and the role an action of R139 is examined against the class (R136). -/
theorem ownIsolate_named {a : Action} (ha : isolateAction action = some a) : ownIsolate id action s =
    if actionAllowed r.cls a then s.hostSequence id r a none else (s, .refused .badValue) := by
  unfold ownIsolate
  rw [if_neg (mt half_toNat_eq_zero.mp hid), hr]
  dsimp only
  rw [if_neg (not_and_or.mpr (hstate.imp not_not.mpr not_not.mpr)), if_neg (not_not.mpr holder), ha]

theorem ownIsolate_badValue (h : ∀ a, isolateAction action = some a → actionAllowed r.cls a = false) :
    ownIsolate id action s = (s, .refused .badValue) := by
  cases ha : isolateAction action with
  | none => exact ownIsolate_unnamed hid hr holder hstate ha
  | some a => exact (ownIsolate_named hid hr holder hstate ha).trans (if_neg (Bool.eq_false_iff.mp (h a ha)))

theorem ownIsolate_taken {a : Action} (ha : isolateAction action = some a) (allowed : actionAllowed r.cls a = true) :
    ownIsolate id action s = s.hostSequence id r a none :=
  (ownIsolate_named hid hr holder hstate ha).trans (if_pos allowed)

end

/-- HOLD begins with GAIN HOLD, every other action of an ISOLATE with a QUERY (R139, R140). -/
theorem firstCommand_of_isolateAction {b : Byte} {a : Action} (h : isolateAction b = some a) : firstCommand a =
    (if a = .hold then .gainHold else .query, if a = .hold then 1 else 0, if a = .hold then .commanding else .querying) := by
  by_cases hold : a = .hold
  · rw [hold]
    rfl
  · have release : a ≠ .release := by
      rintro rfl
      unfold isolateAction at h
      split at h <;> simp at h
    rw [firstCommand_query hold release, if_neg hold, if_neg hold, if_neg hold]

/-! ### The reply -/

/-- A reply joins the port and leaves the fault list, the queue and the flags (R171). -/
theorem State.faultAt_replied (s : State) (typ tag : Byte) (data : List Byte) (id : Nat) :
    (s.replied typ tag data).faultAt id = s.faultAt id := by
  unfold State.faultAt
  rw [State.replied_faults]

/-- A sequence that has begun, once the reply of its request has joined the reply queue (R171). -/
theorem SequenceBegun.replied {s t : State} {r : FaultRecord} {action : Action} {w : Option Half} {c : Command} {n : Nat}
    {f : CommandStep} (h : SequenceBegun s t r action w c n f) {id : Nat} (hid : r.id = id) (typ tag : Byte)
    (data : List Byte) :
    let u := t.replied typ tag data
    u.faultAt id = some (r.begun action .host f.step w)
      ∧ u.port.replies = s.port.replies ++ [⟨typ, tag, data⟩]
      ∧ (u.port.flags.pairs.get r.pair).faultChange = true
      ∧ u.queue.length = s.queue.length + 1
      ∧ ∃ e ∈ u.queue, e.origin = .fault id ∧ e.pair = r.pair ∧ e.index = r.first ∧ e.command = c ∧ e.argument = n := by
  subst hid
  intro u
  refine ⟨(t.faultAt_replied ..).trans h.record, ?_, ?_, ?_, ?_⟩
  · rw [t.replied_replies, h.replies]
  · rw [t.replied_flags, h.faultChange]
  · rw [t.replied_queue, h.queue_length]
  · rw [t.replied_queue]
    exact h.entry

/-- Settles O35: past the checks (`ownIsolate_wrongState`, `ownIsolate_badValue` and their like) both requests are
`hostSequence`, which with room begins the sequence (`hostSequence_room`); the next start and the reply keep what has begun. -/
theorem isolateStartsSequence : Obligations.IsolateStartsSequence := by
  intro tag action id s hs
  refine ⟨fun h => ⟨exec_isolate hs (ownIsolate_notFound h), exec_releaseIsolation hs (ownReleaseIsolation_notFound h)⟩,
    fun r hid hr => ⟨fun h => exec_isolate hs (ownIsolate_wrongState hid hr h),
      fun h => exec_releaseIsolation hs (ownReleaseIsolation_wrongState hid hr h),
      fun hstate holder h => exec_isolate hs (ownIsolate_badValue hid hr holder hstate h),
      fun a hstate holder ha allowed room => ?_, fun hstate holder room => ?_⟩⟩
  · obtain ⟨u, taken, begun⟩ := State.hostSequence_room (w := none) hr (firstCommand_of_isolateAction ha) room
    have step : (if a = .hold then CommandStep.commanding else .querying).step
        = if a = .hold then .commanding else .querying := by split <;> rfl
    have described := begun.replied (State.id_of_faultAt hr) 0xB3 tag
    rw [step] at taken described
    exact ⟨_, _, exec_isolate hs ((ownIsolate_taken hid hr holder hstate ha allowed).trans taken), rfl, described _⟩
  · obtain ⟨u, taken, begun⟩ := State.hostSequence_room (action := .release) (w := r.action.bind (·.statusWord)) hr rfl room
    obtain ⟨record, replies, flag, length, e, joined, origin, pair, index, command, _⟩ :=
      begun.replied (State.id_of_faultAt hr) 0xB4 tag (1 :: (be16 id ++ [3]))
    exact ⟨_, exec_releaseIsolation hs ((ownReleaseIsolation_taken hid hr holder hstate).trans taken), record, replies,
      flag, length, e, joined, origin, pair, index, command⟩

end Sys2Proof.Machine
end

section
/-! TAKE ROLE and RELEASE ROLE outside HOLDER (R153, R154, R160): the beginning and the end of a claim, and what both requests
answer in every other role state. -/

namespace Sys2Proof.Machine

/-! ### The two ends of a claim (R154, R157) -/

/-- A role change written out (R152). -/
theorem State.setRole_eq (s : State) (p : Pair) (r : Role) (c : RoleCause) : s.setRole p r c =
    (s.setPair p { s.pair p with role := r, lastRole := some ⟨(s.pair p).role.name, r.name, c, s.now⟩ }).setPairFlag p
      .roleChange := rfl

/-- A pair that enters CLAIMING, with ROLE CHANGE (R152, R154). -/
theorem State.enterClaiming_eq (s : State) (p : Pair) : s.enterClaiming p =
    (s.setPair p { s.pair p with
      role := .claiming 0 .burst, lastRole := some ⟨(s.pair p).role.name, .claiming, .host, s.now⟩
      tone := ⟨.claimBurst 0, []⟩ }).setPairFlag p .roleChange := by
  unfold State.enterClaiming
  rw [State.setRole_eq, State.setPairFlag_modPair, State.modPair_setPair]
  rfl

/-- A claim that has ended in LISTEN, with ROLE CHANGE (R152, R157). -/
theorem State.endClaim_eq (s : State) (p : Pair) (c : RoleCause) : s.endClaim p c =
    (s.setPair p { s.pair p with
      role := .listen, lastRole := some ⟨(s.pair p).role.name, .listen, c, s.now⟩, tone := ⟨.free, []⟩
      probeOn := false }).setPairFlag p .roleChange := by
  unfold State.endClaim
  rw [State.setRole_eq, State.setPairFlag_modPair, State.modPair_setPair]
  rfl

/-! ### TAKE ROLE (R153) -/

section
variable {tag b : Byte} {p : Pair} {s t : State} {a : Answer}

theorem exec_takeRole (hs : s.Ready) (h : ownTakeRole b s = (t, a)) :
    exec (.takeRole tag b) s = .next (t.replied 0x94 tag (a.status.code :: a.data)) :=
  (exec_answers (r := .takeRole b) hs rfl rfl h).trans rfl

theorem ownTakeRole_badPair (h : b = 0 ∨ 4 < b.toNat) : ownTakeRole b s = (s, .refused .badValue) := withPair_bad h _ s

theorem ownTakeRole_listen (h : (s.pair p).role = .listen) :
    ownTakeRole (pairByte p) s = (s.enterClaiming p, .ok []) := by simp [ownTakeRole, h]

theorem ownTakeRole_taken (h : (s.pair p).role.name = .claiming ∨ (s.pair p).role.name = .holder) :
    ownTakeRole (pairByte p) s = (s, .ok []) := by
  unfold ownTakeRole
  rw [withPair_pairByte]
  cases hr : (s.pair p).role <;> simp [hr, Role.name] at h ⊢

theorem ownTakeRole_wrongState (h : (s.pair p).role.name = .parked ∨ (s.pair p).role.name = .yielding
    ∨ (s.pair p).role.name = .synthetic) : ownTakeRole (pairByte p) s = (s, .refused .wrongState) := by
  unfold ownTakeRole
  rw [withPair_pairByte]
  cases hr : (s.pair p).role <;> simp [hr, Role.name] at h ⊢

end

/-- Settles O25: the answer of each role state, and the entry into CLAIMING as `State.enterClaiming_eq` writes it out. -/
theorem takeRoleStartsClaim : Obligations.TakeRoleStartsClaim := by
  refine ⟨fun tag b s hs hb => exec_takeRole hs (ownTakeRole_badPair hb), ?_⟩
  intro tag p s hs q
  refine ⟨fun h => ?_, fun h => exec_takeRole hs (ownTakeRole_taken h), fun h => exec_takeRole hs (ownTakeRole_wrongState h)⟩
  have claimed := exec_takeRole (tag := tag) hs (ownTakeRole_listen h)
  rw [State.enterClaiming_eq, h] at claimed
  exact claimed

/-! ### RELEASE ROLE (R160) -/

theorem yieldModeOf_none {b : Byte} (h : 1 < b.toNat) : yieldModeOf b = none := by
  unfold yieldModeOf
  split
  · omega
  · omega
  · rfl

theorem yieldModeOf_some {b : Byte} (h : b.toNat ≤ 1) : ∃ m, yieldModeOf b = some m := by
  rcases Nat.le_one_iff_eq_zero_or_eq_one.mp h with h | h
  · exact ⟨.graceful, by simp [yieldModeOf, h]⟩
  · exact ⟨.prompt, by simp [yieldModeOf, h]⟩

/-- The byte of a yield mode names it. -/
theorem yieldModeOf_code (m : YieldMode) : yieldModeOf (BitVec.ofNat 8 m.code) = some m := by cases m <;> rfl

section
variable {tag mode : Byte} {p : Pair} {s t : State} {a : Answer} {m : YieldMode}

theorem exec_releaseRole (hs : s.Ready) (h : ownReleaseRole (pairByte p) mode s = (t, a)) :
    exec (.releaseRole tag (pairByte p) mode) s = .next (t.replied 0x95 tag (a.status.code :: a.data)) :=
  (exec_answers (r := .releaseRole (pairByte p) mode) hs rfl rfl h).trans rfl

theorem ownReleaseRole_badMode (hm : yieldModeOf mode = none) :
    ownReleaseRole (pairByte p) mode s = (s, .refused .badValue) := by simp [ownReleaseRole, hm]

variable (hm : yieldModeOf mode = some m)
include hm

theorem ownReleaseRole_holder (h : (s.pair p).role.name = .holder) :
    ownReleaseRole (pairByte p) mode s = ((s.takeCompletion p).enterYielding p m .host, .ok []) := by
  unfold ownReleaseRole
  rw [withPair_pairByte, hm]
  cases hr : (s.pair p).role <;> simp [hr, Role.name] at h ⊢

theorem ownReleaseRole_claiming (h : (s.pair p).role.name = .claiming) :
    ownReleaseRole (pairByte p) mode s = (s.endClaim p .host, .ok []) := by
  unfold ownReleaseRole
  rw [withPair_pairByte, hm]
  cases hr : (s.pair p).role <;> simp [hr, Role.name] at h ⊢

theorem ownReleaseRole_listen (h : (s.pair p).role = .listen) :
    ownReleaseRole (pairByte p) mode s = (s, .ok []) := by simp [ownReleaseRole, hm, h]

theorem ownReleaseRole_wrongState (h : (s.pair p).role = .parked ∨ (s.pair p).role.name = .yielding
    ∨ (s.pair p).role = .synthetic) : ownReleaseRole (pairByte p) mode s = (s, .refused .wrongState) := by
  unfold ownReleaseRole
  rw [withPair_pairByte, hm]
  cases hr : (s.pair p).role <;> simp [hr, Role.name] at h ⊢

end

/-- Settles O26: the mode is examined first, then the role state answers; a claim ends as `State.endClaim_eq` writes it. -/
theorem releaseRoleOutsideHolder : Obligations.ReleaseRoleOutsideHolder := by
  intro tag mode p s hs q
  refine ⟨fun hm h => ?_, fun hm h => ?_, fun hm h => ?_, fun hm =>
    exec_releaseRole hs (ownReleaseRole_badMode (yieldModeOf_none hm))⟩
  all_goals obtain ⟨m, hm⟩ := yieldModeOf_some hm
  · have ended := exec_releaseRole (tag := tag) hs (ownReleaseRole_claiming hm h)
    rw [State.endClaim_eq, show (s.pair p).role.name = .claiming from h] at ended
    exact ended
  · exact exec_releaseRole hs (ownReleaseRole_listen hm h)
  · exact exec_releaseRole hs (ownReleaseRole_wrongState hm h)

end Sys2Proof.Machine
end

section
/-! The yield written out (R71, R72, R131, R149, R160 to R162): what its beginning and its quiet guard make of the pair, the
supervisory queue and the fault list; and RELEASE ROLE in HOLDER. -/

namespace Sys2Proof.Machine

/-! ### What a yield makes of its pair -/

/-- Whether the pass of a pair goes on through a yield: a GRACEFUL one leaves a RUNNING pass (R72). -/
def State.passGoesOn (s : State) (p : Pair) (m : YieldMode) : Bool := decide (m = .graceful) && s.bank.runs p

/-- A pair whose yield has begun: YIELDING, the sweep abandoned unless its pass goes on, the learning abandoned (R71, R72,
R161). -/
def PairState.yieldBegun (q : PairState) (m : YieldMode) (c : RoleCause) (now : LineTime) (pass : Bool) : PairState :=
  ({ q with
      role := .yielding m false false, lastRole := some ⟨q.role.name, .yielding, c, now⟩
      sweep := if pass then q.sweep else none } : PairState).abandonLearning .role now

/-- A pair whose quiet guard has been set: YIELDING while an item stands, silent in LISTEN otherwise (R161, R162). -/
def PairState.guarded (q : PairState) (m : YieldMode) (pass exchange : Bool) (now : LineTime) : PairState :=
  if pass || exchange then { q with role := .yielding m pass exchange }
  else { q with
    role := .listen, lastRole := some ⟨q.role.name, .listen, .roleYielded, now⟩, tone := ⟨.free, []⟩, probeOn := false }

/-- Abandoned learning leaves the role, the sweep and the drive, and no run (R110). -/
theorem PairState.abandonLearning_kept (q : PairState) (c : LearnCause) (now : LineTime) :
    (q.abandonLearning c now).role = q.role ∧ (q.abandonLearning c now).lastRole = q.lastRole
      ∧ (q.abandonLearning c now).sweep = q.sweep ∧ (q.abandonLearning c now).tone = q.tone
      ∧ (q.abandonLearning c now).probeOn = q.probeOn ∧ (q.abandonLearning c now).learn = .idle := by
  unfold PairState.abandonLearning
  split
  next idle => exact ⟨rfl, rfl, rfl, rfl, rfl, idle⟩
  · exact ⟨rfl, rfl, rfl, rfl, rfl, rfl⟩

/-- What the beginning of a yield writes; it leaves the drive to the guard (R5, R161). -/
theorem PairState.yieldBegun_written (q : PairState) (m : YieldMode) (c : RoleCause) (now : LineTime) (pass : Bool) :
    (q.yieldBegun m c now pass).role = .yielding m false false
      ∧ (q.yieldBegun m c now pass).lastRole = some ⟨q.role.name, .yielding, c, now⟩
      ∧ (q.yieldBegun m c now pass).sweep = (if pass then q.sweep else none)
      ∧ (q.yieldBegun m c now pass).tone = q.tone ∧ (q.yieldBegun m c now pass).probeOn = q.probeOn
      ∧ (q.yieldBegun m c now pass).learn = .idle := PairState.abandonLearning_kept ..

/-- The quiet guard writes neither the sweep nor the learning. -/
theorem PairState.guarded_kept (q : PairState) (m : YieldMode) (pass exchange : Bool) (now : LineTime) :
    (q.guarded m pass exchange now).sweep = q.sweep ∧ (q.guarded m pass exchange now).learn = q.learn := by
  unfold PairState.guarded
  split <;> exact ⟨rfl, rfl⟩

/-- The role and the drive by what the guard waits for (R161, R162). -/
theorem PairState.guarded_written (q : PairState) (m : YieldMode) (pass exchange : Bool) (now : LineTime) :
    if pass || exchange then
      (q.guarded m pass exchange now).role = .yielding m pass exchange
        ∧ (q.guarded m pass exchange now).lastRole = q.lastRole ∧ (q.guarded m pass exchange now).tone = q.tone
        ∧ (q.guarded m pass exchange now).probeOn = q.probeOn
    else
      (q.guarded m pass exchange now).role = .listen
        ∧ (q.guarded m pass exchange now).lastRole = some ⟨q.role.name, .listen, .roleYielded, now⟩
        ∧ (q.guarded m pass exchange now).tone = ⟨.free, []⟩ ∧ (q.guarded m pass exchange now).probeOn = false := by
  unfold PairState.guarded
  split <;> exact ⟨rfl, rfl, rfl, rfl⟩

/-- The only sweep that a yield leaves has its pass in the bank (R72). -/
theorem PairState.sweep_through_yield {q q' : PairState} {pass : Bool} (hs : q'.sweep = if pass then q.sweep else none)
    (hb : pass = true → q.inBank = true) : q'.inBank = pass ∧ q'.passInBank = pass ∧ q'.passReady = false := by
  unfold PairState.inBank PairState.passInBank PairState.passReady
  cases pass with
  | false => simp [hs]
  | true =>
    obtain ⟨w, hw, stage⟩ := PairState.inBank_iff.mp (hb rfl)
    simp [hs, hw, stage]

/-! ### The beginning of a yield -/

theorem State.yieldSweep_eq (s : State) (p : Pair) (m : YieldMode) :
    s.yieldSweep p m = if s.passGoesOn p m then s else s.abandonSweep p := by cases m <;> rfl

theorem State.pair_yieldBegun_same {s : State} {p : Pair} (hd : (s.pair p).completionDue = false) (m : YieldMode)
    (c : RoleCause) :
    (s.yieldBegun p m c).pair p = (s.pair p).yieldBegun m c s.now (s.passGoesOn p m) := by
  have entered := State.pair_setRole_same s p (.yielding m false false) c
  have told : ((s.setRole p (.yielding m false false) c).yieldSweep p m).pair p = { s.pair p with
      role := .yielding m false false, lastRole := some ⟨(s.pair p).role.name, .yielding, c, s.now⟩
      sweep := if s.passGoesOn p m then (s.pair p).sweep else none } := by
    rw [State.yieldSweep_eq, show (s.setRole p (.yielding m false false) c).passGoesOn p m = s.passGoesOn p m from rfl]
    split
    · exact entered
    · rw [State.abandonSweep_eq (by rw [entered]; exact hd)]
      exact (State.pair_setPair_same _ p _).trans (by rw [entered]; rfl)
  unfold State.yieldBegun
  rw [State.pair_abandonLearning_same, told, (State.yieldSweep_kept _ p m).now]
  rfl

theorem State.yieldBegun_other (s : State) {p p' : Pair} (m : YieldMode) (c : RoleCause) (h : p' ≠ p) :
    PairKept (s.pair p') ((s.yieldBegun p m c).pair p') := by
  have told := (State.yieldSweep_kept (s.setRole p (.yielding m false false) c) p m).pair p'
  unfold State.yieldBegun
  rw [State.pair_abandonLearning_other _ _ h]
  rwa [State.pair_setRole_other _ _ _ h] at told

theorem State.yieldBegun_sameFaults (s : State) (p : Pair) (m : YieldMode) (c : RoleCause) :
    SameFaults s (s.yieldBegun p m c) :=
  ((s.setRole_sameFaults p _ c).trans (State.yieldSweep_sameFaults ..)).trans (State.abandonLearning_sameFaults ..)

/-! ### The quiet guard (R161, R162) -/

section
variable (s : State) (p : Pair) (m : YieldMode) (pass exchange : Bool)

theorem State.pair_setGuard_same :
    (s.setGuard p m pass exchange).pair p = (s.pair p).guarded m pass exchange s.now := by
  unfold PairState.guarded
  rcases s.setGuard_cases p m pass exchange with ⟨waits, h⟩ | ⟨hp, hx, h⟩ <;> rw [h]
  · rw [if_pos waits, State.pair_modPair_same]
  · rw [hp, hx, State.pair_finishYield_same]
    rfl

/-- The entries that wait for the pair end with the yield (R131). -/
theorem State.setGuard_queue : (s.setGuard p m pass exchange).queue =
    if pass || exchange then s.queue else queueAfterRoleLoss p s.queue := by
  rcases s.setGuard_cases p m pass exchange with ⟨waits, h⟩ | ⟨hp, hx, h⟩ <;> rw [h]
  · rw [if_pos waits]
    rfl
  · rw [hp, hx]
    exact State.loseRole_queue _ p

/-- The sequences that wait for such an entry or for the queue end with the yield (R149). -/
theorem State.setGuard_faults (hn : (pass || exchange) = true ∨ (s.faults.map (·.id)).Nodup) :
    (s.setGuard p m pass exchange).faults =
      if pass || exchange then s.faults else faultsAfterRoleLoss p s.queue s.faults := by
  rcases s.setGuard_cases p m pass exchange with ⟨waits, h⟩ | ⟨hp, hx, h⟩ <;> rw [h]
  · rw [if_pos waits]
    rfl
  · rw [hp, hx] at hn ⊢
    exact State.loseRole_faults (s := (s.setRole p .listen .roleYielded).modPair p PairState.silence)
      (hn.resolve_left Bool.false_ne_true) p

end

/-- The sequences that end set FAULT CHANGE (R97, R149). -/
theorem State.finishYield_faultChange {s : State} {p : Pair} (hn : (s.faults.map (·.id)).Nodup) {r : FaultRecord}
    (hr : r ∈ s.faults) (hl : r.losesRole p s.queue = true) :
    ((s.finishYield p).port.flags.pairs.get r.pair).get .faultChange = true :=
  State.loseRole_flag (s := (s.setRole p .listen .roleYielded).modPair p PairState.silence) hn hr hl

/-! ### The yield -/

section
variable {s : State} {p : Pair} {m : YieldMode} (c : RoleCause) (hd : (s.pair p).completionDue = false)
  (hb : s.passGoesOn p m = true → (s.pair p).inBank = true)
include hd hb

/-- A yield sets its guard from the pass that goes on and from the pair's exchange (R161). -/
theorem State.enterYielding_guard : s.enterYielding p m c =
    ((s.yieldBegun p m c).setGuard p m (s.passGoesOn p m) (s.inFlightOn p)).arbitrate := by
  obtain ⟨_, _, sweep, _⟩ := (s.pair p).yieldBegun_written m c s.now (s.passGoesOn p m)
  obtain ⟨_, held, _⟩ := PairState.sweep_through_yield sweep hb
  rw [← State.pair_yieldBegun_same hd] at held
  have flight : (s.yieldBegun p m c).inFlightOn p = s.inFlightOn p := by
    unfold State.inFlightOn
    rw [State.yieldBegun_queue]
  rw [State.enterYielding_eq, held, flight]

theorem State.pair_enterYielding_same : (s.enterYielding p m c).pair p =
    ((s.pair p).yieldBegun m c s.now (s.passGoesOn p m)).guarded m (s.passGoesOn p m) (s.inFlightOn p) s.now := by
  obtain ⟨_, _, sweep, _⟩ := (s.pair p).yieldBegun_written m c s.now (s.passGoesOn p m)
  have set := (s.yieldBegun p m c).pair_setGuard_same p m (s.passGoesOn p m) (s.inFlightOn p)
  rw [State.pair_yieldBegun_same hd, (s.yieldBegun_part p m c).now] at set
  rw [State.enterYielding_guard c hd hb, State.pair_arbitrate_of_not_ready, set]
  · rfl
  · obtain ⟨guarded, _⟩ := PairState.guarded_kept ((s.pair p).yieldBegun m c s.now (s.passGoesOn p m)) m
      (s.passGoesOn p m) (s.inFlightOn p) s.now
    obtain ⟨_, _, unready⟩ := PairState.sweep_through_yield (guarded.trans sweep) hb
    rw [set]
    exact unready

/-- The sweep and the learning after a yield (R71, R72, R110). -/
theorem State.enterYielding_sweep :
    ((s.enterYielding p m c).pair p).sweep = (if s.passGoesOn p m then (s.pair p).sweep else none)
      ∧ ((s.enterYielding p m c).pair p).learn = .idle := by
  obtain ⟨_, _, sweep, _, _, learn⟩ := (s.pair p).yieldBegun_written m c s.now (s.passGoesOn p m)
  obtain ⟨sweepKept, learnKept⟩ := PairState.guarded_kept ((s.pair p).yieldBegun m c s.now (s.passGoesOn p m)) m
    (s.passGoesOn p m) (s.inFlightOn p) s.now
  rw [State.pair_enterYielding_same c hd hb]
  exact ⟨sweepKept.trans sweep, learnKept.trans learn⟩

/-- The role and the drive after a yield (R161, R162). -/
theorem State.enterYielding_drive :
    if s.passGoesOn p m || s.inFlightOn p then
      ((s.enterYielding p m c).pair p).role = .yielding m (s.passGoesOn p m) (s.inFlightOn p)
        ∧ ((s.enterYielding p m c).pair p).lastRole = some ⟨(s.pair p).role.name, .yielding, c, s.now⟩
        ∧ ((s.enterYielding p m c).pair p).tone = (s.pair p).tone
        ∧ ((s.enterYielding p m c).pair p).probeOn = (s.pair p).probeOn
    else
      ((s.enterYielding p m c).pair p).role = .listen
        ∧ ((s.enterYielding p m c).pair p).lastRole = some ⟨.yielding, .listen, .roleYielded, s.now⟩
        ∧ ((s.enterYielding p m c).pair p).tone = ⟨.free, []⟩ ∧ ((s.enterYielding p m c).pair p).probeOn = false := by
  obtain ⟨role, lastRole, _, tone, probeOn, _⟩ := (s.pair p).yieldBegun_written m c s.now (s.passGoesOn p m)
  have written := PairState.guarded_written ((s.pair p).yieldBegun m c s.now (s.passGoesOn p m)) m
    (s.passGoesOn p m) (s.inFlightOn p) s.now
  rw [role, lastRole, tone, probeOn] at written
  rwa [State.pair_enterYielding_same c hd hb]

theorem State.enterYielding_queue : (s.enterYielding p m c).queue =
    if s.passGoesOn p m || s.inFlightOn p then s.queue else queueAfterRoleLoss p s.queue := by
  rw [State.enterYielding_guard c hd hb, State.arbitrate_queue, State.setGuard_queue, State.yieldBegun_queue]

theorem State.enterYielding_faults
    (hn : (s.passGoesOn p m || s.inFlightOn p) = true ∨ (s.faults.map (·.id)).Nodup) : (s.enterYielding p m c).faults =
    if s.passGoesOn p m || s.inFlightOn p then s.faults else faultsAfterRoleLoss p s.queue s.faults := by
  have same := (s.yieldBegun_sameFaults p m c).faults
  rw [State.enterYielding_guard c hd hb, State.arbitrate_faults,
    State.setGuard_faults _ _ _ _ _ (by rwa [same]), State.yieldBegun_queue, same]

theorem State.enterYielding_faultChange (ends : (s.passGoesOn p m || s.inFlightOn p) = false)
    (hn : (s.faults.map (·.id)).Nodup) {r : FaultRecord} (hr : r ∈ s.faults) (hl : r.losesRole p s.queue = true) :
    ((s.enterYielding p m c).port.flags.pairs.get r.pair).get .faultChange = true := by
  have same := (s.yieldBegun_sameFaults p m c).faults
  rw [State.enterYielding_guard c hd hb]
  refine (State.arbitrate_kept _).flags r.pair .faultChange ?_
  unfold State.setGuard
  rw [if_neg (Bool.eq_false_iff.mp ends)]
  exact State.finishYield_faultChange (by rwa [same]) (by rwa [same]) (by rwa [State.yieldBegun_queue])

theorem State.enterYielding_other {p' : Pair} (h : p' ≠ p) :
    PairKept (s.pair p') ((s.enterYielding p m c).pair p') := by
  have set := (State.setGuard_yield (s.yieldBegun p m c) p m (s.passGoesOn p m) (s.inFlightOn p)).others p' h
  have granted := (State.arbitrate_kept ((s.yieldBegun p m c).setGuard p m (s.passGoesOn p m) (s.inFlightOn p))).pair p'
  rw [State.enterYielding_guard c hd hb]
  rw [set] at granted
  exact (s.yieldBegun_other m c h).trans granted

end

/-! ### RELEASE ROLE in HOLDER (R160) -/

/-- A pair whose pass runs has that pass in the bank (R65, R69). -/
theorem SweepInv.inBank_of_passGoesOn {s : State} (h : SweepInv s) {p : Pair} {m : YieldMode}
    (hp : s.passGoesOn p m = true) : (s.pair p).inBank = true := by
  refine (h.bank p).mp ?_
  have runs : s.bank.runs p = true := (Bool.and_eq_true_iff.mp hp).2
  unfold Bank.runs at runs
  split at runs
  next l done hl =>
    rw [hl]
    exact congrArg some (of_decide_eq_true runs)
  · cases runs

/-- Settles O27: a completion that is due is taken first, and the yield then is what `State.enterYielding_sweep`,
`State.enterYielding_drive` and the lemmas on the queue and the fault list say. -/
theorem releaseRoleYields : Obligations.ReleaseRoleYields := by
  intro tag m p s c hs hi hr pass release
  have holder : (s.pair p).role.name = .holder := congrArg Role.name hr
  have row (u : State) (hu : u.Ready) (h : (u.pair p).role.name = .holder) :
      exec release u = .next (((u.takeCompletion p).enterYielding p m .host).replied 0x95 tag [0]) :=
    exec_releaseRole hu (ownReleaseRole_holder (yieldModeOf_code m) h)
  refine ⟨fun _ => ?_, fun hd => ?_⟩
  · obtain ⟨notDue, same⟩ := State.pair_takeCompletion (s := s) (p := p) (by rw [holder]; exact RoleName.noConfusion)
    refine ⟨notDue, same.trans hr, ?_⟩
    rw [row s hs holder, row _ ((s.takeCompletion_kept p).toPartKept.ready hs) (by rwa [same]),
      State.takeCompletion_of_not_due notDue]
  · have hb : s.passGoesOn p m = true → (s.pair p).inBank = true := hi.inBank_of_passGoesOn
    have kept := (s.enterYielding_kept p m .host).toPartKept
    have yielded := row s hs holder
    rw [State.takeCompletion_of_not_due hd] at yielded
    refine ⟨_, yielded, ?_⟩
    obtain ⟨sweep, learn⟩ := State.enterYielding_sweep .host hd hb
    obtain ⟨inBank, _, unready⟩ := PairState.sweep_through_yield sweep hb
    have drive := State.enterYielding_drive .host hd hb
    have queue := State.enterYielding_queue .host hd hb
    rw [holder] at drive
    simp only [State.pair_replied, State.replied_faults, State.replied_flags, State.replied_queue, State.replied_replies,
      kept.replies]
    refine ⟨trivial, s.enterYielding_roleChange p m .host, learn, unready, inBank, fun ends => ?_, ?_, ?_,
      fun p' hp => State.enterYielding_other .host hd hb hp⟩
    · rw [sweep, show s.passGoesOn p m = false from ends]
      rfl
    · show if s.passGoesOn p m || s.inFlightOn p then _ else _
      split at drive
      next waits => rwa [if_pos waits]
      next ends =>
        obtain ⟨role, lastRole, tone, probeOn⟩ := drive
        rw [if_neg ends] at queue ⊢
        refine ⟨role, lastRole, State.driveWord_silent ?_ ?_, fun e he => queueAfterRoleLoss_not_waiting (queue ▸ he)⟩
        · rwa [State.pair_replied]
        · rwa [State.pair_replied]
    · show if s.passGoesOn p m || s.inFlightOn p then _ else _
      rw [queue]
      split
      next waits => exact ⟨rfl, (State.enterYielding_faults .host hd hb (.inl waits)).trans (if_pos waits)⟩
      next ends =>
        refine ⟨rfl, fun hf => ⟨?_, fun r hm hl => ?_⟩⟩
        · exact (State.enterYielding_faults .host hd hb (.inr hf.distinct)).trans (if_neg ends)
        · exact State.enterYielding_faultChange .host hd hb (Bool.eq_false_iff.mpr ends) hf.distinct hm hl

end Sys2Proof.Machine
end

section
/-! The course of a claim (R7, R154, R156, R157), and the collision of two holders (R73, R161 to R163). -/

namespace Sys2Proof.Machine

/-! ### Events of the line role -/

section
variable {s : State} (hs : s.inReset = false) (p : Pair)
include hs

theorem exec_claimBurstEnd : exec (.claimBurstEnd p) s = .next (s.claimBurstEnd p).transmit :=
  live_running hs (·.claimBurstEnd p)

theorem exec_keepBurstEnd : exec (.keepBurstEnd p) s = .next (s.keepBurstEnd p).transmit :=
  live_running hs (·.keepBurstEnd p)

theorem exec_claimWon : exec (.claimWon p) s = .next (s.claimWon p).transmit := live_running hs (·.claimWon p)

theorem exec_claimTimeout : exec (.claimTimeout p) s = .next (s.claimTimeout p).transmit :=
  live_running hs (·.claimTimeout p)

theorem exec_collision : exec (.collision p) s = .next (s.collide p).transmit := live_running hs (·.collide p)

end

/-! ### The ends of bursts (R7, R154) -/

section
variable {s : State} {p : Pair}

theorem State.claimBurstEnd_eq {n m : Nat} (hr : (s.pair p).role = .claiming n .burst)
    (ht : (s.pair p).tone = ⟨.claimBurst m, []⟩) : s.claimBurstEnd p = s.setPair p { s.pair p with
      tone := ⟨.free, []⟩, role := .claiming n (if (s.pair p).det.farPresent then .held else .counting 0) } := by
  have released : s.releaseTone p = s.modPair p fun q => { q with tone := toneReleased q.tone } :=
    State.releaseTone_eq (by rw [ht]; exact fun _ => nofun)
  unfold State.claimBurstEnd
  rw [hr, released]
  dsimp only
  rw [State.modPair_modPair, State.modPair, ht]
  rfl

theorem State.keepBurstEnd_eq {m : Nat} {waiting : List ToneAsker} (ht : (s.pair p).tone = ⟨.keepBurst m, waiting⟩) :
    s.keepBurstEnd p = s.releaseTone p := by
  unfold State.keepBurstEnd
  rw [ht]

/-- A command frame that has waited for the tone field begins at its first wake symbol (R7, R119). -/
theorem State.releaseTone_toFrame {use : ToneUse} {rest : List ToneAsker} {before after : List QueueEntry}
    {e : QueueEntry} {c : Captured} {ph : Phase} (ht : (s.pair p).tone = ⟨use, .commandFrame :: rest⟩)
    (hq : s.queue = before ++ e :: after) (hb : ∀ x ∈ before, x.isInFlight = false) (he : e.state = .inFlight c ph) :
    s.releaseTone p = { s.setPair p { s.pair p with tone := ⟨.commandFrame, rest⟩ } with
      queue := before ++ { e with state := .inFlight c (.transmitting 1 0 false none) } :: after } := by
  unfold State.releaseTone
  rw [ht]
  exact State.withPhase_at (s := s.modPair p _) hq hb he _

end

/-! ### The end of a claim (R156, R157) -/

theorem PairState.claimWonDue_of_counting {q : PairState} {n m : Nat} (hr : q.role = .claiming n (.counting m))
    (h : (2 * q.config.lineDelay + 100) * 16000 ≤ m) : q.claimWonDue = true := by
  unfold PairState.claimWonDue
  rw [hr]
  exact decide_eq_true h

theorem PairState.claimTimeoutDue_of_claiming {q : PairState} {n : Nat} {quiet : QuietTimer}
    (hr : q.role = .claiming n quiet) (h : q.config.claimTimeout * 16000000 ≤ n) : q.claimTimeoutDue = true := by
  unfold PairState.claimTimeoutDue
  rw [hr]
  exact decide_eq_true h

/-- A claim that succeeds: HOLDER, a sweep if the pair may sweep, and the queue's next start (R156). -/
theorem State.claimWon_eq {s : State} {p : Pair} {n m : Nat} (hr : (s.pair p).role = .claiming n (.counting m))
    (h : (2 * (s.pair p).config.lineDelay + 100) * 16000 ≤ m) :
    s.claimWon p = ((s.setRole p (.holder .idle) .claimWon).considerSweep p).startNext := by
  unfold State.claimWon
  rw [if_pos (PairState.claimWonDue_of_counting hr h)]

/-- Settles O46: the burst ends let the tone field go, a claim that succeeds is a role change followed by what
`considerSweep` and `startNext` keep, and a claim that times out ends as `State.endClaim_eq` writes it. -/
theorem claimRunsItsCourse : Obligations.ClaimRunsItsCourse := by
  intro p s hs q
  refine ⟨fun n m hr ht => ?_, fun m waiting ht hw => ?_, fun m rest before after e c ht hq hb hp he => ?_,
    fun n m hr hm => ?_, fun n quiet hr hn => ?_⟩
  · rw [exec_claimBurstEnd hs, State.claimBurstEnd_eq hr ht]
  · rw [exec_keepBurstEnd hs, State.keepBurstEnd_eq ht,
      State.releaseTone_eq (by rw [show (s.pair p).tone = _ from ht]; exact hw)]
    rfl
  · rw [exec_keepBurstEnd hs, State.keepBurstEnd_eq ht, State.releaseTone_toFrame ht hq hb he]
  · intro won
    have claiming : (s.pair p).role.name = .claiming := congrArg Role.name hr
    have entered : s.setRole p (.holder .idle) .claimWon = won := by
      rw [State.setRole_eq, claiming]
      rfl
    have due : s.claimWon p = (won.considerSweep p).startNext := by rw [State.claimWon_eq hr hm, entered]
    have kept : LineKept won (won.considerSweep p).startNext.transmit :=
      ((won.considerSweep_kept p).trans (State.startNext_kept _)).trans (State.transmit_kept _).line
    have own := kept.pair p
    have holder : won.pair p = { q with
        role := .holder .idle, lastRole := some ⟨.claiming, .holder, .claimWon, s.now⟩ } := State.pair_setPair_same ..
    rw [holder] at own
    refine ⟨_, exec_claimWon hs p, by rw [due]; rfl, ?_⟩
    rw [due]
    refine ⟨own.role, own.lastRole, kept.flags p .roleChange (State.setPairFlag_get_same _ p .roleChange),
      fun lit able => ?_, own.records, own.clock, own.det, fun p' hp => ?_⟩
    · rw [State.pair_transmit, State.startNext_sweep]
      refine State.considerSweep_isSome (PairState.maySweep_iff.mpr ?_)
      rw [holder]
      exact ⟨.inl rfl, lit, able⟩
    · have other := kept.pair p'
      rwa [show won.pair p' = s.pair p' from State.pair_setPair_other s _ hp] at other
  · have claiming : (s.pair p).role.name = .claiming := congrArg Role.name hr
    have due : s.claimTimeout p = s.endClaim p .roleTimeout := if_pos (PairState.claimTimeoutDue_of_claiming hr hn)
    rw [exec_claimTimeout hs, due, State.endClaim_eq, claiming]

/-! ### The collision (R163) -/

section
variable {s : State} {p : Pair} {n : Nat} (hr : (s.pair p).role = .holder (.counting n))
  (hn : (s.pair p).config.collisionTime * 16000 ≤ n)
include hr hn

theorem PairState.collisionDue_of_counting : (s.pair p).collisionDue = true := by
  unfold PairState.collisionDue
  rw [hr]
  exact decide_eq_true hn

theorem State.collide_endA (he : s.endSetting = .endA) : s.collide p = (s.setPair p { s.pair p with
    role := .holder (.counting 0), tone := keepOrdered (s.pair p).tone }).setPairFlag p .collision := by
  unfold State.collide
  rw [if_pos (PairState.collisionDue_of_counting hr hn), he]
  dsimp only
  rw [State.orderKeep_eq, State.setPairFlag_modPair, State.setPairFlag_modPair, State.modPair_modPair]
  rfl

theorem State.collide_endB (he : s.endSetting = .endB) :
    s.collide p = ((s.takeCompletion p).setPairFlag p .collision).enterYielding p .prompt .collision := by
  unfold State.collide
  rw [if_pos (PairState.collisionDue_of_counting hr hn), he]

end

/-- Settles O47: an END A part is `State.collide_endA`; an END B part yields in PROMPT mode, so that no pass goes on, which
`State.enterYielding_drive` and `State.enterYielding_sweep` then say for that mode. -/
theorem collisionIsResolved : Obligations.CollisionIsResolved := by
  intro p n s hs hr hn q
  have holder : (s.pair p).role.name = .holder := congrArg Role.name hr
  refine ⟨fun he => ?_, fun he _ => ?_, fun he hd => ?_⟩
  · rw [exec_collision hs, State.collide_endA hr hn he]
  · obtain ⟨notDue, same⟩ := State.pair_takeCompletion (s := s) (p := p) (by rw [holder]; exact RoleName.noConfusion)
    have part := (s.takeCompletion_kept p).toPartKept
    have again := State.collide_endB (same.trans hr) (by rwa [((s.takeCompletion_returns p).pair p).config])
      (part.endSetting.trans he)
    rw [State.takeCompletion_of_not_due notDue] at again
    refine ⟨notDue, same, ?_⟩
    rw [exec_collision hs, exec_collision (part.inReset.trans hs), State.collide_endB hr hn he, again]
  · have collided := State.collide_endB hr hn he
    rw [State.takeCompletion_of_not_due hd] at collided
    have stays : (s.setPairFlag p .collision).passGoesOn p .prompt = true →
        ((s.setPairFlag p .collision).pair p).inBank = true := nofun
    have sweep := (State.enterYielding_sweep (s := s.setPairFlag p .collision) .collision hd stays).1
    have drive := State.enterYielding_drive (s := s.setPairFlag p .collision) .collision hd stays
    have flagged := (State.enterYielding_kept (s.setPairFlag p .collision) p .prompt .collision).flags p .collision
      (State.setPairFlag_get_same s p .collision)
    rw [State.pair_setPairFlag, holder] at drive
    refine ⟨_, exec_collision hs p, ?_⟩
    rw [collided]
    simp only [State.pair_transmit, State.transmit_port_flags]
    refine ⟨flagged, State.enterYielding_roleChange _ p .prompt .collision, sweep, ?_, fun p' hp =>
      State.enterYielding_other (s := s.setPairFlag p .collision) .collision hd stays hp⟩
    change if s.inFlightOn p then _ else _ at drive
    split at drive
    next flight =>
      obtain ⟨role, lastRole, _, _⟩ := drive
      rw [if_pos flight]
      exact ⟨role.trans (congrArg _ flight), lastRole⟩
    next ends =>
      obtain ⟨role, lastRole, tone, probeOn⟩ := drive
      rw [if_neg ends]
      exact ⟨role, lastRole, State.driveWord_silent (by rwa [State.pair_transmit]) (by rwa [State.pair_transmit])⟩

end Sys2Proof.Machine
end

section
/-! How every command acts (R171, R178): a row that is no reset of the pin acts on a running part alone, and none stops it. -/

namespace Sys2Proof.Machine

/-- A command acts on a part that is not held in reset, unless it is one of the two on the pin RESET_N. -/
theorem exec_live_or_pin (i : Instr) :
    (∃ f : State → State, ∀ s, exec i s = live s f) ∨ (∃ r1 r0 e, i = .powerOnReset r1 r0 e) ∨ i = .resetPinLow := by
  cases hr : asRequest i with
  | some x => exact .inl ⟨_, fun s => by rw [exec_eq_request hr]; rfl⟩
  | none =>
    cases he : blockEvent i with
    | some f => exact .inl ⟨f, exec_eq_live he⟩
    | none =>
      cases i with
      | requestUnknownType tag typ payload => exact .inl ⟨(·.arrive _), fun _ => rfl⟩
      | resetTakesEffect => exact .inl ⟨_, fun _ => rfl⟩
      | powerOnReset r1 r0 e => exact .inr (.inl ⟨r1, r0, e, rfl⟩)
      | resetPinLow => exact .inr (.inr rfl)
      | frameReceived cs => exact .inl ⟨fun s => (s.rescan []).rescan (fresh cs), fun _ => rfl⟩
      | frameAgeExpired => exact .inl ⟨(·.rescan []), fun _ => rfl⟩
      | transmitFrameEnd => exact .inl ⟨_, fun _ => rfl⟩
      | timebaseFractionIncrement => exact .inl ⟨_, fun _ => rfl⟩
      | returnSample | returnLossDeclared | periodBoundary | farActivityBlock | farToneMillisecond | passBegin | passEnd
      | sweepCompletion | commandFrameEnd | driveErrorStop | receptionStart | replyBit | claimBurstEnd | keepBurstEnd
      | claimWon | claimTimeout | collision | toneSymbolMidpoint => cases he
      | _ => cases hr

theorem live_answers_next (s : State) (f : State → State) : ∃ t, live s f = .next t := by
  cases h : s.inReset with
  | true => exact ⟨s, live_held h f⟩
  | false => exact ⟨_, live_running h f⟩

/-- Settles O2: a row acts by `live`, which has a next state either way, or on the pin RESET_N. -/
theorem everyCommandAnswersNext : Obligations.EveryCommandAnswersNext := by
  intro c s
  rcases exec_live_or_pin c with ⟨f, hf⟩ | ⟨r1, r0, e, rfl⟩ | rfl
  · rw [hf]
    exact live_answers_next s f
  · exact ⟨_, rfl⟩
  · exact ⟨_, rfl⟩

/-- Settles O7: the row of the pin is its own definition, and every row that acts by `live` leaves a part held in reset. -/
theorem resetPinHoldsThePart : Obligations.ResetPinHoldsThePart := by
  refine ⟨fun s => rfl, fun c s hs hpin hpower => ?_⟩
  rcases exec_live_or_pin c with ⟨f, hf⟩ | ⟨r1, r0, e, rfl⟩ | rfl
  · rw [hf, live_held hs]
  · exact absurd rfl (hpower r1 r0 e)
  · exact absurd rfl hpin

end Sys2Proof.Machine
end

section
/-! The owners of requests (R171): each leaves the receiver and the two frame queues, keeps line time legal, and changes
nothing where it refuses. -/

namespace Sys2Proof.Machine

/-! ### What an owner leaves -/

/-- What stays of the port's queues and of the Timebase: no frame joins or leaves a queue, and legal line time stays legal
(R170, R171, R179). -/
structure FramesKept (s t : State) : Prop where
  requests : t.port.requests = s.port.requests
  replies : t.port.replies = s.port.replies
  time : TimeInv s → TimeInv t

theorem FramesKept.refl (s : State) : FramesKept s s := ⟨rfl, rfl, id⟩

theorem PartKept.frames {s t : State} (h : PartKept s t) : FramesKept s t :=
  ⟨h.requests, h.replies, fun ht => by unfold TimeInv; rwa [h.time]⟩

/-- What the owner of a request makes of the part and answers: the receiver and the frame queues stay, and where `b` holds a
refusal leaves the whole state (R171). -/
structure Handled (b : Prop) (s : State) (x : State × Answer) : Prop where
  frames : FramesKept s x.1
  rx : x.1.port.rx = s.port.rx
  refused : b → x.2.status.refuses = true → x.1 = s

section
variable {b : Prop} {s t : State}

/-- An owner that leaves the state, whatever it answers. -/
theorem Handled.same (s : State) (a : Answer) : Handled b s (s, a) := ⟨.refl s, rfl, fun _ _ => rfl⟩

/-- A request that a block behind the port has taken. -/
theorem PartKept.ok (h : PartKept s t) (data : List Byte) : Handled b s (t, .ok data) :=
  ⟨h.frames, h.rx, fun _ hr => nomatch hr⟩

theorem PartKept.accepted (h : PartKept s t) (data : List Byte) : Handled b s (t, .accepted data) :=
  ⟨h.frames, h.rx, fun _ hr => nomatch hr⟩

/-- A request that the port or the Timebase has taken. -/
theorem Handled.taken {x : State × Answer} (h : FramesKept s x.1) (hrx : x.1.port.rx = s.port.rx) (ha : x.2.status = .ok) :
    Handled b s x := ⟨h, hrx, fun _ hr => by rw [ha] at hr; cases hr⟩

theorem Handled.withPair {f : Pair → State → State × Answer} (hf : ∀ p, Handled b s (f p s)) (n : Byte) :
    Handled b s (withPair n f s) := by
  unfold Machine.withPair
  split
  · exact hf _
  · exact .same s _

/-! ### The port and the Timebase (R174, R175, R177, R180, R181) -/

theorem ownSetTime_handled (seconds : Word) (fraction : Option Half) : Handled b s (ownSetTime seconds fraction s) := by
  unfold ownSetTime
  dsimp only
  split
  · exact .same s _
  next h => exact .taken ⟨rfl, rfl, fun _ => ⟨Nat.le_of_not_lt h, Nat.zero_le _⟩⟩ rfl rfl

/-- An adjustment within R181 leaves a legal fraction and the cycle count. -/
theorem Timebase.adjust_legal {t : Timebase} {offset : Int} (hf : t.fraction ≤ 1023) (hlo : -1023 ≤ offset)
    (hhi : offset ≤ 1023) : (t.adjust offset).fraction ≤ 1023 ∧ (t.adjust offset).cycles = t.cycles := by
  unfold Timebase.adjust
  dsimp only
  split
  · exact ⟨by dsimp only; omega, rfl⟩
  · split
    · exact ⟨by dsimp only; omega, rfl⟩
    · exact ⟨by dsimp only; omega, rfl⟩

theorem ownAdjustTime_handled (offset : Half) : Handled b s (ownAdjustTime offset s) := by
  unfold ownAdjustTime
  dsimp only
  split
  · exact .same s _
  next h =>
    refine .taken ⟨rfl, rfl, fun ⟨hf, hc⟩ => ?_⟩ rfl rfl
    obtain ⟨fraction, cycles⟩ := Timebase.adjust_legal (offset := offset.toInt) hf (by omega) (by omega)
    exact ⟨fraction, cycles.trans_le hc⟩

theorem ownClearEvents_handled (sel : List Byte) : Handled b s (ownClearEvents sel s) := by
  unfold ownClearEvents
  split
  · exact .same s _
  · exact .taken ⟨rfl, rfl, id⟩ rfl rfl

theorem ownSetNoticeMask_handled (m : List Byte) : Handled b s (ownSetNoticeMask m s) := by
  unfold ownSetNoticeMask
  split
  · exact .same s _
  · exact .taken ⟨rfl, rfl, id⟩ rfl rfl

/-! ### The Probe Generator and the Return Interface (R10, R14 to R17, R30) -/

theorem ownConfigurePair_handled (n : Byte) (ps : List Word) : Handled b s (ownConfigurePair n ps s) := by
  refine .withPair (fun p => ?_) n
  dsimp only
  split
  · exact .same s _
  · split
    · exact .same s _
    · exact (PartKept.setPair s p _).ok _

theorem ownReadPairConfig_handled (n : Byte) : Handled b s (ownReadPairConfig n s) :=
  .withPair (f := fun p s => (s, .ok (configBlock (s.pair p)))) (fun _ => .same s _) n

/-- DISABLED takes a completion that is due before it looks for an exchange again (log entry 17). -/
theorem setDisabled_handled (p : Pair) : Handled ((s.pair p).completionDue = false) s (setDisabled p s) := by
  unfold setDisabled
  split
  · exact .same s _
  · split <;> exact .same s _
  · split
    · exact .same s _
    next hf =>
      unfold parkOrRefuse
      dsimp only
      split
      next hg =>
        have replanned := (s.takeCompletion_kept p).toPartKept.trans (State.replan_kept _ p).toPartKept
        refine ⟨replanned.frames, replanned.rx, fun hd _ => absurd hg ?_⟩
        rwa [State.takeCompletion_of_not_due hd]
      · exact ((s.takeCompletion_kept p).trans (State.park_kept ..)).toPartKept.ok _

theorem setEnabled_handled (p : Pair) : Handled b s (setEnabled p s) := by
  unfold setEnabled
  split
  · exact ((s.setRole_kept ..).toPartKept.trans (PartKept.setPair ..)).ok _
  · exact (((s.takeCompletion_kept p).trans (State.setRole_kept ..)).trans (State.leaveMode_kept ..)).toPartKept.ok _
  · exact .same s _

theorem setSynthetic_handled (p : Pair) : Handled b s (setSynthetic p s) := by
  unfold setSynthetic
  split
  · exact ((PartKept.setPair s p _).trans (State.enterSynthetic_kept _ p).toPartKept).ok _
  · exact (s.enterSynthetic_kept p).toPartKept.ok _
  · exact .same s _

theorem ownInjectFault_handled (n first : Byte) (f : Half) : Handled b s (ownInjectFault n first f s) := by
  refine .withPair (fun p => ?_) n
  dsimp only
  split
  · exact .same s _
  · split
    · exact .same s _
    · split
      · exact .same s _
      · exact (PartKept.setPair s p _).ok _

/-! ### The Line Role Controller (R153, R160) -/

theorem ownTakeRole_handled (n : Byte) : Handled b s (ownTakeRole n s) := by
  refine .withPair (fun p => ?_) n
  split
  case h_1 => exact (s.enterClaiming_kept p).toPartKept.ok _
  all_goals exact .same s _

theorem ownReadRole_handled (n : Byte) : Handled b s (ownReadRole n s) :=
  .withPair (f := fun p s => (s, .ok (roleBlock s.endSetting (s.pair p)))) (fun _ => .same s _) n

theorem ownReleaseRole_handled (n m : Byte) : Handled b s (ownReleaseRole n m s) := by
  refine .withPair (fun p => ?_) n
  split
  · exact .same s _
  · split
    case h_1 => exact ((s.takeCompletion_kept p).trans (State.enterYielding_kept ..)).toPartKept.ok _
    case h_2 => exact (s.endClaim_kept ..).toPartKept.ok _
    all_goals exact .same s _

/-! ### The Repeater Table, its results and its learning (R43, R47, R52, R78, R79, R104, R105) -/

theorem State.storeRecords_part (p : Pair) (fromOne : Bool) (ls : List LoadRecord) :
    PartKept s (s.storeRecords p fromOne ls) := by
  unfold State.storeRecords
  dsimp only
  split
  · exact (s.removeFaults_kept p).toPartKept.trans (PartKept.setPair ..)
  · exact PartKept.setPair ..

theorem ownLoadRepeaters_handled (n first : Byte) (ls : List LoadRecord) :
    Handled b s (ownLoadRepeaters n first ls s) := by
  refine .withPair (fun p => ?_) n
  dsimp only
  split
  · exact .same s _
  · split
    · exact .same s _
    · split
      · exact .same s _
      · split
        · exact .same s _
        · exact (State.storeRecords_part ..).ok _

theorem ownEditRepeater_handled (n i c : Byte) (low high presence baseline : Half) (x : Byte) :
    Handled b s (ownEditRepeater n i c low high presence baseline x s) := by
  unfold ownEditRepeater
  split
  · exact .same s _
  · split
    · exact .same s _
    · refine .withPair (fun p => ?_) n
      have considered (d : Prop) [Decidable d] (t : State) : PartKept t (if d then t.considerSweep p else t) := by
        split
        · exact (t.considerSweep_kept p).toPartKept
        · exact .refl t
      dsimp only
      split
      · exact .same s _
      · split
        · exact .same s _
        · split <;> exact ((PartKept.setPair s p _).trans (considered _ _)).ok _

theorem ownReadLearning_handled (n : Byte) : Handled b s (ownReadLearning n s) :=
  .withPair (f := fun p s => (s, .ok (learningBlock (s.pair p)))) (fun _ => .same s _) n

theorem ownReadRepeater_handled (n i : Byte) : Handled b s (ownReadRepeater n i s) := by
  refine .withPair (fun p => ?_) n
  dsimp only
  split <;> exact .same s _

theorem ownReadResults_handled (n r start c : Byte) : Handled b s (ownReadResults n r start c s) := by
  unfold ownReadResults
  split
  · exact .same s _
  · refine .withPair (fun p => ?_) n
    have served (q : PairState) : Handled b s
        (s.setPair p (servePage n start.toNat c.toNat q).1, (servePage n start.toNat c.toNat q).2) :=
      .taken (PartKept.setPair s p _).frames rfl rfl
    dsimp only
    split
    · split
      · exact .same s _
      · exact served _
    · split
      · exact .same s _
      · exact served _

/-- The refresh of an empty readout buffer stands although READ TRACE is refused then (R79). -/
theorem ownReadTrace_handled (n i : Byte) : Handled False s (ownReadTrace n i s) := by
  refine .withPair (fun p => ?_) n
  have refreshed : PartKept s (if (s.pair p).readout.isNone then s.setPair p (s.pair p).refresh else s) := by
    split
    · exact .setPair s p _
    · exact .refl s
  have whatever (a : Answer) : Handled False s (if (s.pair p).readout.isNone then s.setPair p (s.pair p).refresh else s, a) :=
    ⟨refreshed.frames, refreshed.rx, False.elim⟩
  dsimp only
  split
  · exact whatever _
  · split <;> exact whatever _

theorem ownLearnBaseline_handled (n target m : Byte) : Handled b s (ownLearnBaseline n target m s) := by
  refine .withPair (fun p => ?_) n
  dsimp only
  split
  · exact .same s _
  · split
    · exact .same s _
    · split
      · exact .same s _
      · split
        · exact .same s _
        · exact (PartKept.setPair s p _).ok _

theorem ownAbortLearn_handled (n : Byte) : Handled b s (ownAbortLearn n s) := by
  refine .withPair (fun p => ?_) n
  split
  · exact .same s _
  · exact (s.abandonLearning_kept ..).toPartKept.ok _

/-! ### The fault list, its sequences and the supervisory queue (R98 to R101, R114, R139, R148) -/

theorem ownListFaults_handled (sel : Byte) (i : Half) : Handled b s (ownListFaults sel i s) := by
  unfold ownListFaults
  split
  · exact .same s _
  · split <;> exact .same s _

theorem ownReadFault_handled (i : Half) : Handled b s (ownReadFault i s) := by
  unfold ownReadFault
  split
  · exact .same s _
  · split <;> exact .same s _

theorem ownPurgeFault_handled (o : Byte) (i : Half) (sel : Byte) : Handled b s (ownPurgeFault o i sel s) := by
  unfold ownPurgeFault
  split
  · unfold purgeOne
    split
    · exact .same s _
    · split
      · exact .same s _
      · split
        · exact .same s _
        · exact (s.withFaults_kept _ s.nextFaultId).toPartKept.ok _
  · unfold purgeCleared
    split
    · exact .same s _
    · exact (s.withFaults_kept _ s.nextFaultId).toPartKept.ok _
  · exact .same s _

theorem acceptedStep_accepts (s : State) (id : Half) : ∃ data, acceptedStep s id = .accepted data := by
  unfold acceptedStep
  split <;> exact ⟨_, rfl⟩

theorem State.hostSequence_handled (id : Half) (r : FaultRecord) (a : Action) (w : Option Half) :
    Handled b s (s.hostSequence id r a w) := by
  obtain ⟨data, accepts⟩ := acceptedStep_accepts (s.startSequence r a .host w) id
  unfold State.hostSequence
  dsimp only
  rw [accepts]
  exact ((s.startSequence_kept ..).line.trans (State.startNext_kept _)).toPartKept.accepted data

theorem ownIsolate_handled (i : Half) (a : Byte) : Handled b s (ownIsolate i a s) := by
  unfold ownIsolate
  split
  · exact .same s _
  · split
    · exact .same s _
    · split
      · exact .same s _
      · split
        · exact .same s _
        · split
          · exact .same s _
          · split
            · exact State.hostSequence_handled ..
            · exact .same s _

theorem ownReleaseIsolation_handled (i : Half) : Handled b s (ownReleaseIsolation i s) := by
  unfold ownReleaseIsolation
  split
  · exact .same s _
  · split
    · exact .same s _
    · split
      · exact .same s _
      · split
        · exact .same s _
        · exact State.hostSequence_handled ..

theorem ownSupervise_handled (tag n i c a : Byte) : Handled b s (ownSupervise tag n i c a s) := by
  refine .withPair (fun p => ?_) n
  dsimp only
  split
  · exact .same s _
  · split
    · exact .same s _
    · split
      · exact .same s _
      · split
        · exact .same s _
        · split
          · exact ((s.enqueue_kept ..).line.trans (State.startNext_kept _)).toPartKept.accepted _
          · exact .same s _

end

/-! ### Every owner -/

/-- The requests whose refusal may leave something behind: READ TRACE its refresh (R79), and a DISABLED a completion that was
due (log entry 17). -/
def refusalIsClean (s : State) : Request → Prop
  | .readTrace .. => False
  | .setPairMode n m => m.toNat = 0 → ∀ p, pairOf n = some p → (s.pair p).completionDue = false
  | _ => True

theorem Handled.weaken {b c : Prop} {s : State} {x : State × Answer} (h : Handled c s x) (hbc : b → c) : Handled b s x :=
  ⟨h.frames, h.rx, fun hb => h.refused (hbc hb)⟩

theorem ownSetPairMode_handled (n m : Byte) (s : State) :
    Handled (refusalIsClean s (.setPairMode n m)) s (ownSetPairMode n m s) := by
  unfold ownSetPairMode withPair
  split
  next p hp =>
    dsimp only
    split
    next hm => exact (setDisabled_handled p).weaken fun clean => clean hm p hp
    · exact setEnabled_handled p
    · exact setSynthetic_handled p
    · exact .same s _
  · exact .same s _

theorem requestOwner_handled (tag : Byte) (r : Request) (s : State) :
    Handled (refusalIsClean s r) s (requestOwner tag r s) := by
  cases r with
  | identify | readTime | readEvents | readQueue => exact .same s _
  | reset => exact .taken ⟨rfl, rfl, id⟩ rfl rfl
  | setTime seconds fraction => exact ownSetTime_handled seconds fraction
  | adjustTime o => exact ownAdjustTime_handled o
  | clearEvents sel => exact ownClearEvents_handled sel
  | setNoticeMask m => exact ownSetNoticeMask_handled m
  | configurePair p ps => exact ownConfigurePair_handled p ps
  | setPairMode p m => exact ownSetPairMode_handled p m s
  | injectFault p f q => exact ownInjectFault_handled p f q
  | takeRole p => exact ownTakeRole_handled p
  | releaseRole p m => exact ownReleaseRole_handled p m
  | loadRepeaters p f rs => exact ownLoadRepeaters_handled p f rs
  | editRepeater p i c lo hi pr b x => exact ownEditRepeater_handled p i c lo hi pr b x
  | readPairConfig p => exact ownReadPairConfig_handled p
  | readRole p => exact ownReadRole_handled p
  | readLearning p => exact ownReadLearning_handled p
  | readRepeater p i => exact ownReadRepeater_handled p i
  | readResults p r f c => exact ownReadResults_handled p r f c
  | readTrace p i => exact ownReadTrace_handled p i
  | learnBaseline p n m => exact ownLearnBaseline_handled p n m
  | abortLearn p => exact ownAbortLearn_handled p
  | listFaults sel i => exact ownListFaults_handled sel i
  | readFault i => exact ownReadFault_handled i
  | purgeFault o i sel => exact ownPurgeFault_handled o i sel
  | isolate i a => exact ownIsolate_handled i a
  | releaseIsolation i => exact ownReleaseIsolation_handled i
  | supervise p i c a => exact ownSupervise_handled tag p i c a

end Sys2Proof.Machine
end

section
/-! Line time and the two frame queues (R170, R171, R179): a request is joined and taken only where there is room, and every
step keeps both queues within four frames and line time legal. -/

namespace Sys2Proof.Machine

/-- Line time is legal and the frame queues hold at most four frames each. -/
structure SerialInv (s : State) : Prop where
  time : TimeInv s
  port : PortInv s

theorem Timebase.increment_legal {t : Timebase} : t.increment.fraction ≤ 1023 ∧ t.increment.cycles = 0 := by
  unfold Timebase.increment
  split
  · exact ⟨by dsimp only; omega, rfl⟩
  · exact ⟨Nat.zero_le _, rfl⟩

theorem State.mayTake_iff {s : State} :
    s.mayTake = true ↔ s.port.replies.length < 4 ∧ s.port.resetPhase = .inactive := by
  unfold State.mayTake
  rw [Bool.and_eq_true_iff, decide_eq_true_iff, decide_eq_true_iff]
  exact Iff.rfl

/-- A part whose blocks and queues have been reset (R177, R178). -/
theorem SerialInv.of_reset {t : State} (ht : TimeInv t) (hp : t.port = .reset) : SerialInv t :=
  ⟨ht, by rw [PortInv, hp]; exact ⟨Nat.zero_le _, Nat.zero_le _⟩⟩

section
variable {s : State} (h : SerialInv s)
include h

theorem SerialInv.kept {t : State} (ht : FramesKept s t) : SerialInv t :=
  ⟨ht.time h.time, by rw [PortInv, ht.requests, ht.replies]; exact h.port⟩

/-! ### Requests (R170, R171) -/

theorem SerialInv.transmit : SerialInv s.transmit := h.kept (State.transmit_kept s).toPartKept.frames

/-- What the receiver holds is none of the two queues. -/
theorem SerialInv.withRx (x : List HeldByte) : SerialInv { s with port := { s.port with rx := x } } :=
  h.kept ⟨rfl, rfl, id⟩

theorem SerialInv.setPartFlag (k : PartFlag) : SerialInv (s.setPartFlag k) :=
  h.kept ⟨by simp, by simp, fun ht => by unfold TimeInv; rwa [State.setPartFlag_time]⟩

theorem SerialInv.joinRequests (f : Frame) : SerialInv (s.joinRequests f) := by
  unfold State.joinRequests
  split
  next room =>
    have joined : (s.port.requests ++ [f]).length ≤ 4 := List.length_append.trans_le room
    exact ⟨h.time, joined, h.port.2⟩
  · exact h.setPartFlag _

/-- A reply joins a reply queue that has room (R171). -/
theorem SerialInv.answer {x : State × Answer} (hx : FramesKept s x.1) (room : s.port.replies.length < 4) (typ tag : Byte) :
    SerialInv (State.answer typ tag x) := by
  have kept := h.kept hx
  have joined : (x.1.port.replies ++ [x.2.frame typ tag]).length ≤ 4 := by
    rw [List.length_append, hx.replies]
    exact room
  exact ⟨kept.time, kept.port.1, joined⟩

theorem SerialInv.handleFrame (f : Frame) (room : s.port.replies.length < 4) : SerialInv (s.handleFrame f) := by
  unfold State.handleFrame
  split
  · exact h.answer (.refl s) room ..
  · exact h.answer (.refl s) room ..
  next r _ => exact h.answer (requestOwner_handled f.tag r s).frames room ..

theorem SerialInv.takeOldest (room : s.port.replies.length < 4) : SerialInv s.takeOldest := by
  unfold State.takeOldest
  split
  · exact h
  next f rest hq =>
    have shorter : rest.length ≤ 4 := Nat.le_of_succ_le (by simpa [hq] using h.port.1)
    have popped : SerialInv { s with port := { s.port with requests := rest } } := ⟨h.time, shorter, h.port.2⟩
    exact popped.handleFrame f room

theorem SerialInv.takeUpTo (fuel : Nat) : SerialInv (State.takeUpTo fuel s) := by
  induction fuel generalizing s with
  | zero => exact h
  | succ fuel ih =>
    unfold State.takeUpTo
    split
    next may => exact ih (h.takeOldest (State.mayTake_iff.mp may).1)
    · exact h

theorem SerialInv.arrive (f : Frame) : SerialInv (s.arrive f) := by
  unfold State.arrive
  split
  next may => exact h.handleFrame f (State.mayTake_iff.mp (Bool.and_eq_true_iff.mp may).1).1
  · exact h.joinRequests f

/-! ### The receiver and the transmitter (R168 to R172) -/

theorem SerialInv.receive (fuel : Nat) (bytes : List HeldByte) : SerialInv (State.receive fuel bytes s) := by
  have discarded {s : State} (h : SerialInv s) : SerialInv s.discardFrame := (h.setPartFlag _).transmit
  have completed {s : State} (h : SerialInv s) (f : Frame) : SerialInv (s.completeFrame f) :=
    ((h.joinRequests f).takeUpTo _).transmit
  induction fuel generalizing bytes s with
  | zero => exact h.withRx _
  | succ fuel ih =>
    cases bytes with
    | nil => exact h.withRx _
    | cons b rest =>
      unfold State.receive
      split
      · exact ih h rest
      · split
        · exact ih (discarded h) rest
        · exact ih (completed h _) _
        · split
          · exact ih (discarded h) rest
          · exact h.withRx _

theorem SerialInv.frameSent (kind : SentKind) : SerialInv (s.frameSent kind) := by
  cases kind with
  | reply =>
    have shorter : (s.port.replies.drop 1).length ≤ 4 := by
      rw [List.length_drop]
      exact (Nat.sub_le _ _).trans h.port.2
    exact ⟨h.time, h.port.1, shorter⟩
  | eventNotice => exact ⟨h.time, h.port⟩
  | resultNotice => exact ⟨h.time, h.port⟩

theorem SerialInv.transmitEnd : SerialInv s.transmitEnd := by
  unfold State.transmitEnd
  split
  · exact (h.frameSent _).transmit.takeUpTo _
  · exact h

/-! ### Resets and the clock (R177 to R179) -/

theorem SerialInv.resetEffect : SerialInv s.resetEffect := by
  unfold State.resetEffect
  split
  · exact .of_reset h.time rfl
  · exact h

theorem SerialInv.fractionIncrement : SerialInv s.fractionIncrement := by
  obtain ⟨fraction, cycles⟩ := Timebase.increment_legal (t := s.time)
  exact ⟨⟨fraction, cycles.trans_le (Nat.zero_le _)⟩, h.port⟩

theorem SerialInv.tickTime : SerialInv s.tickTime := by
  unfold State.tickTime
  split
  next early => exact ⟨⟨h.time.1, Nat.le_of_lt_succ early⟩, h.port⟩
  · exact h.fractionIncrement

theorem SerialInv.tick : SerialInv s.tick := by
  have counted : SerialInv { s.tickTime with
      pairs := ⟨s.pairs.p1.tick, s.pairs.p2.tick, s.pairs.p3.tick, s.pairs.p4.tick⟩
      queue := s.queue.map (QueueEntry.tick s.tickTime.time)
      port := { s.tickTime.port with tx := s.port.tx.tick } } := h.tickTime.kept ⟨rfl, rfl, id⟩
  exact (counted.kept (LineKept.foldl State.endLastSymbol_kept allPairs _).toPartKept.frames).transmit

end

/-! ### Commands and steps -/

/-- The events behind the port leave what the port holds (R171). -/
theorem blockEvent_kept {i : Instr} {f : State → State} (h : blockEvent i = some f) (s : State) : PartKept s (f s) := by
  cases i with
  | returnSample p x => cases h; exact (s.returnSample_kept p x).toPartKept
  | returnLossDeclared p => cases h; exact (s.declareLoss_kept p).toPartKept
  | periodBoundary p => cases h; exact (s.periodBoundary_kept p).toPartKept
  | farActivityBlock p => cases h; exact (s.activityBlock_kept p).toPartKept
  | farToneMillisecond p f3 f4 => cases h; exact (s.farMillisecond_kept p f3 f4).toPartKept
  | passBegin p => cases h; exact (s.passBegin_kept p).toPartKept
  | passEnd p => cases h; exact (s.passEnd_kept p).toPartKept
  | sweepCompletion p => cases h; exact (s.completeSweep_kept p).toPartKept
  | commandFrameEnd => cases h; exact s.frameEnd_kept.toPartKept
  | driveErrorStop => cases h; exact s.driveStop_kept.toPartKept
  | receptionStart => cases h; exact s.receptionStart_kept.toPartKept
  | replyBit => cases h; exact s.replyBit_kept.toPartKept
  | claimBurstEnd p => cases h; exact (s.claimBurstEnd_kept p).toPartKept
  | keepBurstEnd p => cases h; exact (s.keepBurstEnd_kept p).toPartKept
  | claimWon p => cases h; exact (s.claimWon_kept p).toPartKept
  | claimTimeout p => cases h; exact (s.claimTimeout_kept p).toPartKept
  | collision p => cases h; exact (s.collide_kept p).toPartKept
  | toneSymbolMidpoint readback => cases h; exact (s.midpoint_kept readback).toPartKept
  | _ => cases h

section
variable {s : State} (h : SerialInv s)
include h

theorem SerialInv.live {f : State → State} (hf : SerialInv (f s)) {t : State} (ht : live s f = .next t) : SerialInv t := by
  unfold Machine.live at ht
  split at ht <;> cases ht
  · exact h
  · exact hf.transmit

theorem SerialInv.request {tag : Byte} {r : Request} {t : State}
    (ht : request tag r (Machine.requestOwner tag r) s = .next t) : SerialInv t := by
  refine h.live ?_ ht
  split
  next may =>
    have room := (State.mayTake_iff.mp (Bool.and_eq_true_iff.mp may).1).1
    unfold State.handleWith
    split
    · exact h.answer (requestOwner_handled tag r s).frames room ..
    · exact h.answer (.refl s) room ..
  · exact h.joinRequests _

theorem SerialInv.exec {i : Instr} {t : State} (ht : exec i s = .next t) : SerialInv t := by
  cases hr : asRequest i with
  | some x =>
    rw [exec_eq_request hr] at ht
    exact h.request ht
  | none =>
    cases he : blockEvent i with
    | some f =>
      rw [exec_eq_live he] at ht
      exact h.live (h.kept (blockEvent_kept he s).frames) ht
    | none =>
      cases i with
      | requestUnknownType tag typ payload => exact h.live (f := (·.arrive _)) (h.arrive _) ht
      | resetTakesEffect => exact h.live h.resetEffect ht
      | powerOnReset rate1 rate0 e =>
        cases ht
        exact .of_reset ⟨Nat.zero_le _, Nat.zero_le _⟩ rfl
      | resetPinLow =>
        cases ht
        exact ⟨h.time, h.port⟩
      | frameReceived cs => exact h.live (f := fun s => (s.rescan []).rescan (fresh cs)) ((h.receive _ _).receive _ _) ht
      | frameAgeExpired => exact h.live (f := (·.rescan [])) (h.receive _ _) ht
      | transmitFrameEnd => exact h.live h.transmitEnd ht
      | timebaseFractionIncrement => exact h.live h.fractionIncrement ht
      | returnSample | returnLossDeclared | periodBoundary | farActivityBlock | farToneMillisecond | passBegin | passEnd
      | sweepCompletion | commandFrameEnd | driveErrorStop | receptionStart | replyBit | claimBurstEnd | keepBurstEnd
      | claimWon | claimTimeout | collision | toneSymbolMidpoint => cases he
      | _ => cases hr

theorem SerialInv.step {t : State} (ht : step s = .next t) : SerialInv t := by
  unfold Machine.step at ht
  split at ht
  next c rest _ =>
    have popped : SerialInv { s with pending := rest } := ⟨h.time, h.port⟩
    exact popped.exec ht
  · unfold idle at ht
    split at ht
    · cases ht
      exact h
    · split at ht
      · exact h.exec ht
      · cases ht
        exact h.tick

end

/-- Settles O55: the owners and the events leave both queues and keep the Timebase legal (`requestOwner_handled`,
`blockEvent_kept`); the port joins and takes frames only where there is room (`SerialInv.joinRequests`,
`SerialInv.takeUpTo`). -/
theorem stepKeepsTimeAndPort : Obligations.StepKeepsTimeAndPort := by
  intro s t ht hp h
  obtain ⟨time, port⟩ := SerialInv.step ⟨ht, hp⟩ h
  exact ⟨time, port⟩

/-- Settles O60: the queue, the fault list and every pair's list are empty, no pair sweeps, and the default configuration
passes R11 (`listInv_reset`). -/
theorem resetMeetsInvariants : Obligations.ResetMeetsInvariants := by
  have fresh (p : Pair) : State.reset.pair p = .reset := PerPair.get_all _ p
  have noFault {P : FaultRecord → Prop} : ∀ r ∈ State.reset.faults, P r := fun _ h => absurd h List.not_mem_nil
  have noEntry {P : QueueEntry → Prop} : ∀ e ∈ State.reset.queue, P e := fun _ h => absurd h List.not_mem_nil
  refine ⟨⟨Nat.zero_le _, Nat.zero_le _⟩, ⟨Nat.zero_le _, Nat.zero_le _⟩, ⟨Nat.zero_le _, Nat.zero_le _, noEntry⟩,
    fun p _ => ?_, ⟨fun p => ?_, fun p => ?_⟩, ⟨Nat.zero_le _, noFault, List.nodup_nil, by decide⟩, noFault, fun p => ?_⟩
  · rw [fresh]
    rfl
  · rw [fresh]
    exact ⟨nofun, nofun⟩
  · rw [fresh]
    rfl
  · rw [fresh]
    exact listInv_reset

end Sys2Proof.Machine
end

section
/-! Rows of the port and the Timebase as a ready part takes them (R174 to R181), and what an event flag that is set does
(R173, R174). -/

namespace Sys2Proof.Machine

/-! ### Flags (R173 to R175) -/

theorem PairFlags.get_without (f sel : PairFlags) (k : PairFlag) : (f.without sel).get k = (f.get k && !sel.get k) := by
  cases k <;> rfl

theorem EventFlags.without_pairs (f sel : EventFlags) (p : Pair) :
    (f.without sel).pairs.get p = (f.pairs.get p).without (sel.pairs.get p) := by cases p <;> rfl

/-- The ten kinds in the bit order of R191. -/
def everyKind : List PairFlag :=
  [.returnLoss, .roleChange, .faultChange, .faultListFull, .sweepPublished, .learnDone, .overrange, .trackLimit, .driveFault,
    .collision]

theorem mem_everyKind (k : PairFlag) : k ∈ everyKind := by cases k <;> decide

theorem PairFlags.toList_eq (f : PairFlags) : f.toList = everyKind.map f.get := rfl

theorem PairFlags.meet_iff {f g : PairFlags} : f.meet g = true ↔ ∃ k, f.get k = true ∧ g.get k = true := by
  rw [PairFlags.meet, PairFlags.toList_eq, PairFlags.toList_eq, List.zip_map', List.any_map, List.any_eq_true]
  simp only [mem_everyKind, true_and, Function.comp, Bool.and_eq_true]

theorem EventFlags.anyEnabled_iff {f : EventFlags} {m : NoticeMask} : f.anyEnabled m = true ↔
    (f.frameError = true ∧ m.frameError = true) ∨ (f.portOverrun = true ∧ m.portOverrun = true)
      ∨ ∃ (p : Pair) (k : PairFlag), (f.pairs.get p).get k = true ∧ m.kinds.get k = true := by
  simp only [EventFlags.anyEnabled, Bool.or_eq_true, Bool.and_eq_true, PairFlags.meet_iff, or_assoc]
  refine or_congr_right (or_congr_right ⟨?_, ?_⟩)
  · rintro (⟨k, h⟩ | ⟨k, h⟩ | ⟨k, h⟩ | ⟨k, h⟩)
    · exact ⟨.one, k, h⟩
    · exact ⟨.two, k, h⟩
    · exact ⟨.three, k, h⟩
    · exact ⟨.four, k, h⟩
  · rintro ⟨p, k, h⟩
    cases p with
    | one => exact .inl ⟨k, h⟩
    | two => exact .inr (.inl ⟨k, h⟩)
    | three => exact .inr (.inr (.inl ⟨k, h⟩))
    | four => exact .inr (.inr (.inr ⟨k, h⟩))

/-- Settles O12: the flag is written in its place (`PerPair.get_set_same`, `PairFlags.get_set_same`), every other read passes
it by. -/
theorem settingAFlagCallsTheHost : Obligations.SettingAFlagCallsTheHost := by
  intro s p k
  refine ⟨State.setPairFlag_get_same s p k, fun p' k' hne => ?_, rfl, rfl, ?_, rfl⟩
  · show ((s.port.flags.pairs.set p ((s.port.flags.pairs.get p).set k true)).get p').get k' = _
    by_cases hp : p' = p
    · subst hp
      have hk : k' ≠ k := fun hk => hne (by rw [hk])
      rw [PerPair.get_set_same, PairFlags.get_set_other _ _ hk]
    · rw [PerPair.get_set_other _ _ hp]
  · show (s.port.noticePending || (!(s.port.flags.pairs.get p).get k && s.port.mask.kinds.get k)) = true ↔ _
    rw [Bool.or_eq_true, Bool.and_eq_true, Bool.not_eq_true']

/-! ### Selections and masks read back from their bytes (R175, R185, R191) -/

theorem bitsOf_byteOf : ∀ a b c d e f g h : Bool, bitsOf (byteOf [a, b, c, d, e, f, g, h]) = [a, b, c, d, e, f, g, h] := by
  decide

/-- A byte of two settings names no more than two items. -/
theorem byteOf_two : ∀ a b : Bool,
    (byteOf [a, b]).toNat < 4 ∧ (byteOf [a, b]).getLsbD 0 = a ∧ (byteOf [a, b]).getLsbD 1 = b := by decide

theorem pairSelection_encode (f : PairFlags) :
    pairSelection (byteOf (f.toList.drop 8)) (byteOf (f.toList.take 8)) = some f := by
  obtain ⟨lt, bit0, bit1⟩ := byteOf_two f.driveFault f.collision
  have high : f.toList.drop 8 = [f.driveFault, f.collision] := rfl
  have low : bitsOf (byteOf (f.toList.take 8)) = f.toList.take 8 := bitsOf_byteOf ..
  rw [pairSelection, high, if_pos lt, bit0, bit1, low]
  rfl

theorem selectionOf_encode (f : EventFlags) : selectionOf f.encode = some f := by
  obtain ⟨lt, bit0, bit1⟩ := byteOf_two f.frameError f.portOverrun
  show (if _ < 4 then _ else _) = _
  rw [if_pos lt, bit0, bit1]
  simp only [pairSelection_encode]

/-- A setting is written as 0 or 1 and read back (R184). -/
theorem boolCode_read : ∀ b : Bool, (boolCode b).toNat < 2 ∧ (boolCode b == 1) = b := by decide

theorem maskOf_encode (m : NoticeMask) : maskOf m.encode = some m := by
  have coded : m.encode.all (fun b => decide (b.toNat < 2)) = true := by
    show (((m.frameError :: m.portOverrun :: m.kinds.toList).map boolCode).all _) = true
    rw [List.all_map, List.all_eq_true]
    exact fun b _ => decide_eq_true (boolCode_read b).1
  have kinds : (m.kinds.toList.map boolCode).map (· == 1) = m.kinds.toList := by
    rw [List.map_map]
    exact (List.map_congr_left fun b _ => (boolCode_read b).2).trans (List.map_id _)
  show (if m.encode.all (fun b => decide (b.toNat < 2)) = true then
    some (⟨boolCode m.frameError == 1, boolCode m.portOverrun == 1, .ofList ((m.kinds.toList.map boolCode).map (· == 1))⟩ :
      NoticeMask) else none) = some m
  rw [if_pos coded, kinds, (boolCode_read _).2, (boolCode_read _).2]
  rfl

/-! ### Reads of the part (R132, R175, R176, R180) -/

/-- Settles O8: each owner answers from the state as it stands. -/
theorem partReadsAnswerAndKeep : Obligations.PartReadsAnswerAndKeep := by
  intro tag s hs
  have row {i : Instr} {r : Request} {data : List Byte} (hi : asRequest i = some (tag, r)) (hf : r.fits = true)
      (ho : requestOwner tag r s = (s, .ok data)) : exec i s = .next (s.replied (r.typ + 0x80) tag (0 :: data)) :=
    exec_answers hs hi hf ho
  refine ⟨row (r := .identify) rfl rfl rfl, row (r := .readTime) rfl rfl rfl, ?_, row (r := .readQueue) rfl rfl rfl⟩
  refine (row (i := .readEvents tag) (r := .readEvents) rfl rfl rfl).trans ?_
  rw [timeData, LineTime.encode, ← List.append_assoc]
  rfl

/-! ### Line time (R179 to R181) -/

theorem Timebase.adjust_ticks {t : Timebase} {offset : Int} (hf : t.fraction ≤ 1023) (hlo : -1023 ≤ offset)
    (hhi : offset ≤ 1023) : lineTicks (t.adjust offset) = (lineTicks t + offset) % (1024 * 2 ^ 32) := by
  have bound := t.seconds.isLt
  have up : (t.seconds + 1).toNat = (t.seconds.toNat + 1) % 2 ^ 32 := BitVec.toNat_add ..
  have down : (t.seconds - 1).toNat = (2 ^ 32 - 1 + t.seconds.toNat) % 2 ^ 32 := BitVec.toNat_sub ..
  unfold Timebase.adjust lineTicks
  dsimp only
  split
  · dsimp only
    omega
  · split
    · dsimp only
      omega
    · dsimp only
      omega

/-- A fraction increment is an adjustment by one that also zeroes the cycle count (R179). -/
theorem Timebase.increment_eq (t : Timebase) (hf : t.fraction ≤ 1023) : t.increment = { t.adjust 1 with cycles := 0 } := by
  unfold Timebase.increment Timebase.adjust
  dsimp only
  split
  next h => rw [if_neg (by omega), if_neg (by omega)]; rfl
  next h =>
    have last : t.fraction = 1023 := by omega
    rw [last]
    rfl

theorem Timebase.increment_ticks {t : Timebase} (hf : t.fraction ≤ 1023) :
    lineTicks t.increment = (lineTicks t + 1) % (1024 * 2 ^ 32) := by
  rw [t.increment_eq hf]
  exact Timebase.adjust_ticks hf (by decide) (by decide)

theorem ownSetTime_taken {fraction : Option Half} (h : (fraction.map (·.toNat)).getD 0 ≤ 1023) (seconds : Word) (s : State) :
    ownSetTime seconds fraction s = (s.setClock seconds ((fraction.map (·.toNat)).getD 0),
      .ok (be32 seconds ++ u16 ((fraction.map (·.toNat)).getD 0))) := if_neg (Nat.not_lt.mpr h)

theorem ownSetTime_refused {fraction : Option Half} (h : ¬(fraction.map (·.toNat)).getD 0 ≤ 1023) (seconds : Word)
    (s : State) : ownSetTime seconds fraction s = (s, .refused .badValue) := if_pos (Nat.lt_of_not_le h)

theorem ownAdjustTime_taken {offset : Half} (h : offset.toInt.natAbs ≤ 1023) (s : State) :
    ownAdjustTime offset s = ({ s with time := s.time.adjust offset.toInt },
      .ok (be32 (s.time.adjust offset.toInt).seconds ++ u16 (s.time.adjust offset.toInt).fraction)) :=
  if_neg (by omega)

theorem ownAdjustTime_refused {offset : Half} (h : 1023 < offset.toInt.natAbs) (s : State) :
    ownAdjustTime offset s = (s, .refused .badValue) := if_pos (by omega)

/-- Settles O9: the owners set and move the Timebase, and an adjustment of a legal line time is an addition of fractions
(`Timebase.adjust_ticks`). -/
theorem timeIsSetAndAdjusted : Obligations.TimeIsSetAndAdjusted := by
  refine ⟨fun tag seconds fraction s hs => ?_, fun tag offset s hs hf => ⟨fun h => ?_, fun h => ?_⟩⟩
  · split
    next h => exact exec_answers (r := .setTime seconds fraction) hs rfl rfl (ownSetTime_taken h seconds s)
    next h => exact exec_answers (r := .setTime seconds fraction) hs rfl rfl (ownSetTime_refused h seconds s)
  · obtain ⟨fraction, cycles⟩ := Timebase.adjust_legal (offset := offset.toInt) hf (by omega) (by omega)
    exact ⟨s.time.adjust offset.toInt, Timebase.adjust_ticks hf (by omega) (by omega), fraction, cycles,
      exec_answers (r := .adjustTime offset) hs rfl rfl (ownAdjustTime_taken h s)⟩
  · exact exec_answers (r := .adjustTime offset) hs rfl rfl (ownAdjustTime_refused h s)

/-- Settles O10: the transmitter's choice after the increment leaves all but the transmitter's own (`State.transmit_time` and
its like). -/
theorem fractionIncrementAdvancesTime : Obligations.FractionIncrementAdvancesTime := by
  intro s hs hf
  obtain ⟨fraction, cycles⟩ := Timebase.increment_legal (t := s.time)
  have ticks := Timebase.increment_ticks hf
  refine ⟨_, live_running hs State.fractionIncrement, ?_⟩
  simp only [State.transmit_time, State.transmit_port_rx, State.transmit_pairs, State.transmit_bank, State.transmit_faults,
    State.transmit_port_flags, State.transmit_port_requests, State.transmit_port_replies]
  exact ⟨ticks, fraction, cycles, rfl, rfl, rfl, rfl, rfl, rfl, rfl⟩

/-! ### CLEAR EVENTS and SET NOTICE MASK (R174, R175) -/

/-- A mask calls the host when it enables a kind, not enabled before, of which a flag is SET (R174). -/
theorem EventFlags.anyEnabled_newly_iff {f : EventFlags} {old new : NoticeMask} :
    f.anyEnabled (old.newlyEnabled new) = true ↔
      (f.frameError = true ∧ new.frameError = true ∧ old.frameError = false)
      ∨ (f.portOverrun = true ∧ new.portOverrun = true ∧ old.portOverrun = false)
      ∨ ∃ (p : Pair) (k : PairFlag), (f.pairs.get p).get k = true ∧ new.kinds.get k = true ∧ old.kinds.get k = false := by
  rw [EventFlags.anyEnabled_iff]
  simp only [NoticeMask.newlyEnabled, PairFlags.get_without, Bool.and_eq_true, Bool.not_eq_true']

/-- Settles O11: a selection and a mask are read back from their bytes (`selectionOf_encode`, `maskOf_encode`). -/
theorem clearEventsAndMask : Obligations.ClearEventsAndMask := by
  intro tag s hs
  refine ⟨fun sel => ⟨s.port.flags.without sel, ?_, rfl, rfl, fun p k => ?_⟩, fun m =>
    ⟨s.port.noticePending || s.port.flags.anyEnabled (s.port.mask.newlyEnabled m), ?_, ?_⟩⟩
  · refine exec_answers (r := .clearEvents sel.encode) (a := .ok _) hs rfl rfl ?_
    simp only [requestOwner, ownClearEvents, selectionOf_encode]
    rfl
  · rw [EventFlags.without_pairs, PairFlags.get_without]
  · refine exec_answers (r := .setNoticeMask m.encode) (a := .ok []) hs rfl rfl ?_
    simp only [requestOwner, ownSetNoticeMask, maskOf_encode]
  · rw [Bool.or_eq_true, EventFlags.anyEnabled_newly_iff]

end Sys2Proof.Machine
end

section
/-! The request queue (R170, R171, R177): how a frame that arrives is taken, waits or is lost, how a sent frame frees its
place, and the resets. -/

namespace Sys2Proof.Machine

/-! ### A frame that arrives (R170, R171) -/

section
variable {s : State}

/-- A request row is the arrival of its frame (log entry 1); its owner is asked where it is taken. -/
theorem exec_request {i : Instr} {tag : Byte} {r : Request} (hi : asRequest i = some (tag, r)) (hs : s.inReset = false) :
    exec i s = .next (if s.mayTake && s.port.requests.isEmpty then s.handleWith tag r (requestOwner tag r)
      else s.joinRequests (r.frame tag)).transmit := by
  rw [exec_eq_request hi]
  exact live_running hs _

/-- A request row while the port may take no request: its frame waits or is lost (R170). -/
theorem exec_joins {i : Instr} {tag : Byte} {r : Request} (hi : asRequest i = some (tag, r)) (hs : s.inReset = false)
    (hm : s.mayTake = false) : exec i s = .next (s.joinRequests (r.frame tag)).transmit := by
  rw [exec_request hi hs, hm, Bool.false_and, if_neg Bool.false_ne_true]

theorem State.joinRequests_room (h : s.port.requests.length < 4) (f : Frame) :
    s.joinRequests f = { s with port := { s.port with requests := s.port.requests ++ [f] } } := if_pos h

theorem State.joinRequests_overrun (h : s.port.requests.length = 4) (f : Frame) :
    s.joinRequests f = s.setPartFlag .portOverrun := if_neg (by rw [h]; exact Nat.lt_irrefl 4)

theorem State.mayTake_of_full (h : s.port.replies.length = 4) : s.mayTake = false :=
  Bool.eq_false_iff.mpr fun may => absurd (State.mayTake_iff.mp may).1 (by rw [h]; exact Nat.lt_irrefl 4)

theorem State.mayTake_of_reset (h : s.port.resetPhase ≠ .inactive) : s.mayTake = false :=
  Bool.eq_false_iff.mpr fun may => h (State.mayTake_iff.mp may).2

theorem State.Ready.mayTake (h : s.Ready) : s.mayTake = true := State.mayTake_iff.mpr ⟨h.room, h.noReset⟩

theorem State.Ready.arrive (h : s.Ready) (f : Frame) : s.arrive f = s.handleFrame f := by
  unfold State.arrive
  rw [h.mayTake, h.noRequest]
  rfl

/-! ### A frame that is taken (R171) -/

theorem State.handleFrame_request {f : Frame} {r : Request} (h : f.parse = .request r) :
    s.handleFrame f = State.answer f.typ f.tag (requestOwner f.tag r s) := by
  unfold State.handleFrame
  rw [h]

theorem State.handleFrame_unknownType {f : Frame} (h : f.parse = .unknownType) :
    s.handleFrame f = State.answer f.typ f.tag (s, .refused .unknownType) := by
  unfold State.handleFrame
  rw [h]

theorem State.handleFrame_badLength {f : Frame} (h : f.parse = .badLength) :
    s.handleFrame f = State.answer f.typ f.tag (s, .refused .badLength) := by
  unfold State.handleFrame
  rw [h]

theorem State.takeUpTo_held (h : s.mayTake = false) (fuel : Nat) : State.takeUpTo fuel s = s := by
  cases fuel with
  | zero => rfl
  | succ fuel =>
    unfold State.takeUpTo
    rw [h]
    rfl

theorem State.takeRequests_held (h : s.mayTake = false) : s.takeRequests = s := State.takeUpTo_held h _

theorem State.takeRequests_empty (h : s.port.requests = []) : s.takeRequests = s := by
  unfold State.takeRequests
  rw [h]
  rfl

/-- The oldest waiting request is taken where the port may take one, then the others (R171). -/
theorem State.takeRequests_cons (hm : s.mayTake = true) {f : Frame} {rest : List Frame} (hq : s.port.requests = f :: rest) :
    s.takeRequests
      = State.takeUpTo rest.length (({ s with port := { s.port with requests := rest } } : State).handleFrame f) := by
  unfold State.takeRequests
  rw [hq, List.length_cons, State.takeUpTo, if_pos hm, State.takeOldest, hq]

/-! ### A frame that has been sent (R172) -/

theorem exec_transmitFrameEnd {kind : SentKind} {f : Frame} {n : Nat} (hs : s.inReset = false)
    (ht : s.port.tx = .sending kind f n) :
    exec .transmitFrameEnd s = .next (s.frameSent kind).transmit.takeRequests.transmit := by
  refine (live_running hs State.transmitEnd).trans ?_
  unfold State.transmitEnd
  rw [ht]

/-- A sent reply leaves the reply queue; no RESET is under way (R172). -/
theorem State.frameSent_reply (hp : s.port.resetPhase = .inactive) :
    s.frameSent .reply = { s with port := { s.port with tx := .idle, replies := s.port.replies.drop 1 } } := by
  have phase : (if s.port.resetPhase = .replyQueued ∧ s.port.replies.drop 1 = [] then .due else s.port.resetPhase)
      = s.port.resetPhase := if_neg fun h => by rw [hp] at h; cases h.1
  unfold State.frameSent
  dsimp only
  rw [phase]

/-- With the last reply, which is that of a RESET, the reset becomes due (R177). -/
theorem State.frameSent_resetReply (hr : s.port.replies.length = 1) (hp : s.port.resetPhase = .replyQueued) :
    s.frameSent .reply = { s with port := { s.port with tx := .idle, replies := [], resetPhase := .due } } := by
  have gone : s.port.replies.drop 1 = [] := List.drop_eq_nil_of_le hr.le
  unfold State.frameSent
  dsimp only
  rw [gone, if_pos ⟨hp, rfl⟩]

/-- Once the RESET reply has been sent nothing is sent before the reset (R177). -/
theorem State.transmit_resetDue (h : s.port.resetPhase = .due) : s.transmit = s := if_neg fun hc => hc.2 h

end

/-- Settles O17: a full reply queue takes no request, so the frame joins the request queue or is lost
(`State.joinRequests_room`, `State.joinRequests_overrun`). -/
theorem fullQueuesHoldOrOverrun : Obligations.FullQueuesHoldOrOverrun := by
  intro c tag r s hc hs hfull _
  have joins := exec_joins hc hs (State.mayTake_of_full hfull)
  refine ⟨fun room => ?_, fun four => ⟨_, joins, ?_⟩⟩
  · rw [joins, State.joinRequests_room room]
  · rw [State.joinRequests_overrun four]
    simp only [State.transmit_port_requests, State.transmit_port_replies, State.transmit_port_flags, State.transmit_pairs,
      State.transmit_faults, State.transmit_queue_length]
    exact ⟨rfl, rfl, rfl, rfl, rfl, rfl, rfl⟩

theorem readTime_answer (tag : Byte) (s : State) : State.answer 0x05 tag (requestOwner tag .readTime s)
    = { s with port := { s.port with
        replies := s.port.replies ++ [⟨0x85, tag, 0 :: (be32 s.time.seconds ++ u16 s.time.fraction)⟩] } } := rfl

/-- A waiting READ TIME takes the one place that a reply queue has (R171, R180). -/
theorem State.takeRequests_readTime {s : State} {tag : Byte} {rest : List Frame} (hr : s.port.replies.length = 3)
    (hp : s.port.resetPhase = .inactive) (hq : s.port.requests = ⟨0x05, tag, []⟩ :: rest) :
    s.takeRequests = { s with port := { s.port with
      requests := rest
      replies := s.port.replies ++ [⟨0x85, tag, 0 :: (be32 s.time.seconds ++ u16 s.time.fraction)⟩] } } := by
  have may : s.mayTake = true := State.mayTake_iff.mpr ⟨hr.trans_lt (Nat.lt_succ_self 3), hp⟩
  rw [State.takeRequests_cons may hq, State.handleFrame_request (r := .readTime) rfl, readTime_answer]
  exact State.takeUpTo_held (State.mayTake_of_full (List.length_append.trans (congrArg (· + 1) hr))) _

/-- Settles O16: the place is freed by `State.frameSent_reply` or taken from the queue by `dropFirst`; a full reply queue then
has room for one request, which fills it again. -/
theorem frameEndFreesItsPlace : Obligations.FrameEndFreesItsPlace := by
  refine ⟨fun f r rest n s hs hp ht hr hq => ?_, fun f n before after e s hs hp ht hq hqueue hb he => ?_,
    fun f g rest n s hs hp ht hr hq htyp hpay => ?_⟩
  · rw [exec_transmitFrameEnd hs ht, State.frameSent_reply hp, State.takeRequests_empty (by simpa using hq), hr]
    rfl
  · have sent : s.frameSent .resultNotice = { s with queue := before ++ after, port := { s.port with tx := .idle } } := by
      unfold State.frameSent
      dsimp only
      rw [hqueue, dropFirst_of_split after hb he]
    rw [exec_transmitFrameEnd hs ht, sent, State.takeRequests_empty (by simpa using hq)]
  · obtain ⟨typ, tag, payload⟩ := g
    obtain rfl : typ = 0x05 := htyp
    obtain rfl : payload = [] := hpay
    refine ⟨_, exec_transmitFrameEnd hs ht, ?_⟩
    rw [State.frameSent_reply hp, State.takeRequests_readTime (tag := tag) (rest := rest)
      (by rw [State.transmit_port_replies, List.length_drop, hr]) (by rw [State.transmit_port_resetPhase, hp])
      (by rw [State.transmit_port_requests, hq])]
    simp only [State.transmit_port_requests, State.transmit_port_replies, State.transmit_time, and_self]

/-! ### Resets (R177, R178) -/

theorem portIsReset_reset : PortIsReset .reset where
  hunting := rfl
  requests := rfl
  replies := rfl
  idle := rfl
  frameError := rfl
  portOverrun := rfl
  pairFlags p k := by
    show ((PerPair.all (PairFlags.all false)).get p).get k = false
    rw [PerPair.get_all, PairFlags.get_all]
  maskFrameError := rfl
  maskPortOverrun := rfl
  maskKinds := PairFlags.get_all true
  noNotice := rfl
  noReset := rfl

/-- The inputs last seen are no part of a reset. -/
theorem pairIsReset_reset (inputs : LineInputs) : PairIsReset { PairState.reset with inputs := inputs } where
  parameters := rfl
  parked := rfl
  noRoleEvent := rfl
  chip := rfl
  period := rfl
  toneFree := rfl
  probeOff := rfl
  lossNotDeclared := ⟨rfl, rfl, rfl⟩
  farAbsent := ⟨rfl, rfl, rfl⟩
  armed := ⟨rfl, rfl⟩
  noInjection := rfl
  noRecords := rfl
  noSweep := rfl
  sweepNumber := rfl
  noPublished := rfl
  emptyReadout := ⟨rfl, rfl⟩
  learning := ⟨rfl, rfl, rfl⟩

theorem BlocksAtReset.blocksReset {t : State} (h : BlocksAtReset t) (hr : t.inReset = false) (hp : t.port = .reset)
    (hn : t.pointer = .one) (hq : t.queue = []) : BlocksReset t where
  running := hr
  port := hp ▸ portIsReset_reset
  pairs p := by
    obtain ⟨inputs, own⟩ := h.pair p
    rw [own]
    exact pairIsReset_reset inputs
  bank := h.bank
  pointer := hn
  faults := ⟨h.faults, h.nextFaultId⟩
  queue := hq

/-- Settles O5: the blocks are `BlocksAtReset`, and a pair at reset is silent. -/
theorem powerOnResetValues : Obligations.PowerOnResetValues := by
  intro rate1 rate0 endSel s
  refine ⟨_, rfl, rfl, rfl, rfl, rfl, ?_, rfl, fun p => ?_⟩
  · exact BlocksAtReset.blocksReset ⟨fun p => ⟨_, State.pair_keepInputs (s := s) rfl p⟩, rfl, rfl, rfl⟩ rfl rfl rfl rfl
  · have own := State.pair_keepInputs (s := s) (t := { State.reset with
      pending := s.pending, rate1 := rate1, rate0 := rate0, endSetting := endSel
      pairs := PerPair.keepInputs s.pairs State.reset.pairs }) rfl p
    exact State.driveWord_silent (by rw [own]; rfl) (by rw [own]; rfl)

/-- Settles O6: a port that has taken a RESET takes no request (`State.mayTake_of_reset`), and one whose reset is due sends
nothing (`State.transmit_resetDue`). -/
theorem resetRequestTakesEffect : Obligations.ResetRequestTakesEffect := by
  refine ⟨fun tag s hs => exec_answers (r := .reset) (a := .ok []) hs rfl rfl rfl, fun tag s hs hp room => ?_,
    fun f n s hs ht hr hp => ?_, fun s hs hp => ?_⟩
  · rw [exec_joins (i := .readTime tag) rfl hs (State.mayTake_of_reset hp), State.joinRequests_room room]
    rfl
  · rw [exec_transmitFrameEnd hs ht, State.frameSent_resetReply hr hp]
    generalize hu : ({ s with port := { s.port with tx := .idle, replies := [], resetPhase := .due } } : State) = u
    have due : u.port.resetPhase = .due := by rw [← hu]
    rw [State.transmit_resetDue due, State.takeRequests_held (State.mayTake_of_reset (by rw [due]; exact nofun)),
      State.transmit_resetDue due]
  · have effect : s.resetEffect = s.softReset := if_pos hp
    have begun : s.softReset.transmit = s.softReset := rfl
    refine ⟨s.softReset, ?_, s.softReset_atReset.blocksReset rfl rfl rfl rfl, rfl, rfl, rfl, rfl, rfl⟩
    exact (live_running hs State.resetEffect).trans (by rw [effect, begun])

end Sys2Proof.Machine
end

section
/-! The serial line and the transmitter (R167, R172, R174): the bits of a frame on TXD, and which frame an IDLE transmitter
begins. -/

namespace Sys2Proof.Machine

/-! ### The bits on TXD (R167) -/

/-- Characters stand ten bits apart. -/
theorem getElem?_flatMap_characterBits {bs : List Byte} {i : Nat} {b : Byte} (h : bs[i]? = some b) {j : Nat} (hj : j < 10) :
    (bs.flatMap characterBits)[10 * i + j]? = (characterBits b)[j]? := by
  induction bs generalizing i with
  | nil => cases h
  | cons x xs ih =>
    rw [List.flatMap_cons]
    cases i with
    | zero =>
      obtain rfl : x = b := Option.some.inj h
      rw [Nat.mul_zero, Nat.zero_add, List.getElem?_append_left (by rwa [characterBits_length])]
    | succ i =>
      rw [List.getElem?_append_right (by rw [characterBits_length]; omega), characterBits_length,
        show 10 * (i + 1) + j - 10 = 10 * i + j by omega]
      exact ih h

theorem characterBits_start (b : Byte) : (characterBits b)[0]? = some .start := rfl

theorem characterBits_data (b : Byte) {j : Nat} (hj : j < 8) : (characterBits b)[1 + j]? = some (.data (b.getLsbD j)) := by
  rw [characterBits, List.cons_append, Nat.add_comm, List.getElem?_cons_succ, List.getElem?_append_left (by simpa using hj)]
  simp [hj]

theorem characterBits_stop (b : Byte) : (characterBits b)[9]? = some .stop := rfl

section
variable {s : State} {kind : SentKind} {f : Frame} {n : Nat} (h : s.port.tx = .sending kind f n)
include h

/-- The bit on TXD is the one that the bit times passed name: bit `j` of byte `i` of the frame. -/
theorem State.txd_bit {i j : Nat} {b : Byte} {x : SerialBit} (hb : f.wire[i]? = some b) (hj : j < 10)
    (hx : (characterBits b)[j]? = some x) (hn : s.bitTimes n = 10 * i + j) : s.txd = x := by
  rw [State.txd_sending h, hn, List.getD_eq_getElem?_getD, frameBits, getElem?_flatMap_characterBits hb hj, hx]
  rfl

theorem State.txd_over (hn : 10 * f.wire.length ≤ s.bitTimes n) : s.txd = .idle := by
  rw [State.txd_sending h, List.getD_eq_default]
  rw [frameBits_length, ← wire_length, Nat.mul_comm]
  exact hn

theorem State.frameSentDue_iff : s.frameSentDue = true ↔ 10 * f.wire.length ≤ s.bitTimes n := by
  unfold State.frameSentDue
  rw [h, wire_length, Nat.mul_comm 10]
  exact decide_eq_true_iff

end

theorem State.frameSentDue_idle {s : State} (h : s.port.tx = .idle) : s.frameSentDue = false := by
  unfold State.frameSentDue
  rw [h]

/-- The rate that the two pins give (R167). -/
theorem State.baud_eq (s : State) : s.baud = match s.rate1, s.rate0 with
    | false, false => 115200
    | false, true => 230400
    | true, false => 460800
    | true, true => 921600 := by
  unfold State.baud
  cases s.rate1 <;> cases s.rate0 <;> rfl

/-! ### The choice of the next frame (R172, R174) -/

section
variable {s : State} (ht : s.port.tx = .idle) (hp : s.port.resetPhase ≠ .due)
include ht hp

theorem State.transmit_reply {f : Frame} {rest : List Frame} (hr : s.port.replies = f :: rest) :
    s.transmit = { s with port := { s.port with tx := .sending .reply f 0 } } := by
  unfold State.transmit
  rw [if_pos ⟨ht, hp⟩, hr]
  rfl

variable (hr : s.port.replies = [])
include hr

theorem State.transmit_notice (hn : s.port.noticePending = true) : s.transmit = { s with port := { s.port with
    noticePending := false, tx := .sending .eventNotice (eventNotice s) 0 } } := by
  unfold State.transmit
  rw [if_pos ⟨ht, hp⟩, hr]
  exact if_pos hn

variable (hn : s.port.noticePending = false)
include hn

theorem State.transmit_found {e : QueueEntry} (hq : s.queue.find? QueueEntry.noticeDue = some e) : s.transmit = { s with
    queue := modFirst QueueEntry.noticeDue QueueEntry.beginNotice s.queue
    port := { s.port with tx := .sending .resultNotice (resultNotice e) 0 } } := by
  unfold State.transmit
  rw [if_pos ⟨ht, hp⟩, hr]
  refine (if_neg (by rw [hn]; exact Bool.false_ne_true)).trans ?_
  rw [hq]
  rfl

theorem State.transmit_none (hq : s.queue.find? QueueEntry.noticeDue = none) : s.transmit = s := by
  unfold State.transmit
  rw [if_pos ⟨ht, hp⟩, hr]
  refine (if_neg (by rw [hn]; exact Bool.false_ne_true)).trans ?_
  rw [hq]

theorem State.transmit_result {before after : List QueueEntry} {e : QueueEntry} (hq : s.queue = before ++ e :: after)
    (hb : ∀ x ∈ before, x.noticeDue = false) (he : e.noticeDue = true) : s.transmit = { s with
      queue := before ++ e.beginNotice :: after
      port := { s.port with tx := .sending .resultNotice (resultNotice e) 0 } } := by
  rw [State.transmit_found ht hp hr hn (by rw [hq]; exact find_of_split after hb he), hq, modFirst_of_split _ after hb he]

theorem State.transmit_nothing (hq : ∀ x ∈ s.queue, x.noticeDue = false) : s.transmit = s :=
  State.transmit_none ht hp hr hn
    (List.find?_eq_none.mpr fun x hx => by rw [hq x hx]; exact Bool.false_ne_true)

end

/-- Settles O15: the bits by their place in the frame (`State.txd_bit`), the choice by its four cases
(`State.transmit_reply` and the lemmas after it). -/
theorem transmitterChoosesByPriority : Obligations.TransmitterChoosesByPriority := by
  refine ⟨fun s => ?_, fun s ht hp => ⟨fun f rest hr => State.transmit_reply ht hp hr, fun hr hn => ?_,
    fun before e after hr hn hq hb he => State.transmit_result ht hp hr hn hq hb he,
    fun hr hn hq => State.transmit_nothing ht hp hr hn hq⟩⟩
  · intro rate
    have baud : s.baud = rate := s.baud_eq
    refine ⟨fun idle => ⟨State.txd_idle idle, State.frameSentDue_idle idle⟩, fun kind f n ht => ?_⟩
    have times : s.bitTimes n = n * rate / 16000000 := by rw [State.bitTimes, baud]; rfl
    show (10 * f.wire.length ≤ n * rate / 16000000 → _) ∧ _
    rw [← times]
    exact ⟨State.txd_over ht, State.frameSentDue_iff ht, fun i b hb =>
      ⟨State.txd_bit (j := 0) ht hb (by decide) (characterBits_start b),
        fun j hj hn => State.txd_bit ht hb (by omega) (characterBits_data b hj) (by rw [hn, Nat.add_assoc]),
        State.txd_bit ht hb (by decide) (characterBits_stop b)⟩⟩
  · rw [State.transmit_notice ht hp hr hn, eventNotice, LineTime.encode, ← List.append_assoc]

end Sys2Proof.Machine
end

section
/-! Frames and requests (R171, R183, R186, R187): a fitting request is read back from its frame, and what is refused changes
nothing. -/

namespace Sys2Proof.Machine

/-! ### Fields read back from their bytes -/

theorem half_be16 (h : Half) : half (h.extractLsb' 8 8) (h.extractLsb' 0 8) = h :=
  (BitVec.extractLsb'_append_extractLsb'_eq_extractLsb' (len₁ := 8) (len₂ := 8) (start₁ := 0) rfl).trans
    (BitVec.extractLsb'_eq_self (x := h))

theorem word_be32 (w : Word) :
    word (w.extractLsb' 24 8) (w.extractLsb' 16 8) (w.extractLsb' 8 8) (w.extractLsb' 0 8) = w := by
  unfold word
  rw [BitVec.extractLsb'_append_extractLsb'_eq_extractLsb' (show 24 = 16 + 8 from rfl),
    BitVec.extractLsb'_append_extractLsb'_eq_extractLsb' (show 16 = 8 + 8 from rfl),
    BitVec.extractLsb'_append_extractLsb'_eq_extractLsb' (show 8 = 0 + 8 from rfl)]
  exact BitVec.extractLsb'_eq_self

theorem words_be32 (ws : List Word) : words (ws.flatMap be32) = ws := by
  induction ws with
  | nil => rfl
  | cons w ws ih =>
    show word _ _ _ _ :: words (ws.flatMap be32) = w :: ws
    rw [word_be32, ih]

theorem loadRecords_encode (rs : List LoadRecord) : loadRecords (rs.flatMap LoadRecord.encode) = rs := by
  induction rs with
  | nil => rfl
  | cons r rs ih =>
    show LoadRecord.mk _ (half _ _) (half _ _) _ _ (half _ _) (half _ _) (half _ _) (half _ _) _
      :: loadRecords (rs.flatMap LoadRecord.encode) = r :: rs
    rw [ih]
    simp only [half_be16]

theorem length_flatMap_be32 (ws : List Word) : (ws.flatMap be32).length = 4 * ws.length := by
  induction ws with
  | nil => rfl
  | cons w ws ih =>
    rw [List.flatMap_cons, List.length_append, ih, List.length_cons]
    exact Nat.add_comm 4 _

theorem length_flatMap_encode (rs : List LoadRecord) : (rs.flatMap LoadRecord.encode).length = 16 * rs.length := by
  induction rs with
  | nil => rfl
  | cons r rs ih =>
    rw [List.flatMap_cons, List.length_append, ih, List.length_cons]
    exact Nat.add_comm 16 _

/-! ### A request read back from its frame (R171, R186) -/

theorem parseConfigurePair_payload (p : Byte) {ps : List Word} (h : ps.length = 32) :
    parseConfigurePair (p :: ps.flatMap be32) = .request (.configurePair p ps) := by
  rw [parseConfigurePair, if_pos (by rw [length_flatMap_be32, h]), words_be32]

theorem parseLoadRepeaters_payload (p first : Byte) {rs : List LoadRecord} (h : rs.length ≤ 16) :
    parseLoadRepeaters (p :: first :: BitVec.ofNat 8 rs.length :: rs.flatMap LoadRecord.encode)
      = .request (.loadRepeaters p first rs) := by
  have count : (BitVec.ofNat 8 rs.length).toNat = rs.length := by
    rw [BitVec.toNat_ofNat]
    exact Nat.mod_eq_of_lt (by omega)
  rw [parseLoadRepeaters, count, if_pos ⟨h, length_flatMap_encode rs⟩, loadRecords_encode]

/-- A fitting request is read back from its frame (R171, R183, R186). -/
theorem Request.parse_frame (tag : Byte) {r : Request} (h : r.fits = true) : (r.frame tag).parse = .request r := by
  cases r with
  | setTime seconds fraction =>
    cases fraction with
    | none => exact congrArg (fun w => Parsed.request (.setTime w none)) (word_be32 seconds)
    | some f =>
      show Parsed.request (.setTime (word _ _ _ _) (some (half _ _))) = _
      rw [word_be32, half_be16]
  | adjustTime o => exact congrArg (fun x => Parsed.request (.adjustTime x)) (half_be16 o)
  | clearEvents sel => exact if_pos (of_decide_eq_true h)
  | setNoticeMask m => exact if_pos (of_decide_eq_true h)
  | configurePair p ps => exact parseConfigurePair_payload p (of_decide_eq_true h)
  | injectFault p f q => exact congrArg (fun x => Parsed.request (.injectFault p f x)) (half_be16 q)
  | loadRepeaters p f rs => exact parseLoadRepeaters_payload p f (of_decide_eq_true h)
  | editRepeater p i c lo hi pr b x =>
    show Parsed.request (.editRepeater p i c (half _ _) (half _ _) (half _ _) (half _ _) x) = _
    simp only [half_be16]
  | listFaults s f => exact congrArg (fun x => Parsed.request (.listFaults s x)) (half_be16 f)
  | readFault i => exact congrArg (fun x => Parsed.request (.readFault x)) (half_be16 i)
  | purgeFault o i s => exact congrArg (fun x => Parsed.request (.purgeFault o x s)) (half_be16 i)
  | isolate i a => exact congrArg (fun x => Parsed.request (.isolate x a)) (half_be16 i)
  | releaseIsolation i => exact congrArg (fun x => Parsed.request (.releaseIsolation x)) (half_be16 i)
  | _ => rfl

/-! ### A frame that names no request (R171, R183) -/

section
variable (bs : List Byte)

theorem noPayload_known (r : Request) : noPayload r bs ≠ .unknownType := by
  unfold noPayload
  split <;> exact nofun

theorem onePayload_known (r : Byte → Request) : onePayload r bs ≠ .unknownType := by
  unfold onePayload
  split <;> exact nofun

theorem twoPayload_known (r : Byte → Byte → Request) : twoPayload r bs ≠ .unknownType := by
  unfold twoPayload
  split <;> exact nofun

theorem threePayload_known (r : Byte → Byte → Byte → Request) : threePayload r bs ≠ .unknownType := by
  unfold threePayload
  split <;> exact nofun

theorem fourPayload_known (r : Byte → Byte → Byte → Byte → Request) : fourPayload r bs ≠ .unknownType := by
  unfold fourPayload
  split <;> exact nofun

theorem fitting_known (c : Prop) [Decidable c] (r : Request) : (if c then .request r else .badLength) ≠ Parsed.unknownType := by
  split <;> exact nofun

theorem parseSetTime_known : parseSetTime bs ≠ .unknownType := by
  unfold parseSetTime
  split <;> exact nofun

theorem parseConfigurePair_known : parseConfigurePair bs ≠ .unknownType := by
  unfold parseConfigurePair
  split
  · exact fitting_known _ _
  · exact nofun

theorem parseLoadRepeaters_known : parseLoadRepeaters bs ≠ .unknownType := by
  unfold parseLoadRepeaters
  split
  · exact fitting_known _ _
  · exact nofun

theorem parseEditRepeater_known : parseEditRepeater bs ≠ .unknownType := by
  unfold parseEditRepeater
  split <;> exact nofun

end

/-- The TYPE alone says whether a frame names a request: each of the thirty has a reader, and none but these (R183). -/
theorem Frame.parse_unknownType_iff (f : Frame) : f.parse = .unknownType ↔
    f.typ.toNat ∉ [0x01, 0x02, 0x03, 0x04, 0x05, 0x06, 0x07, 0x08, 0x10, 0x11, 0x12, 0x13, 0x14, 0x15, 0x16, 0x20, 0x21,
      0x22, 0x23, 0x24, 0x25, 0x26, 0x27, 0x30, 0x31, 0x32, 0x33, 0x34, 0x38, 0x39] := by
  unfold Frame.parse
  split
  case h_31 =>
    simp only [List.mem_cons, List.not_mem_nil, or_false, not_or, true_iff]
    and_intros <;> assumption
  all_goals
    next h =>
      rw [h]
      simp [noPayload_known, onePayload_known, twoPayload_known, threePayload_known, fourPayload_known, fitting_known,
        parseSetTime_known, parseConfigurePair_known, parseLoadRepeaters_known, parseEditRepeater_known]

/-! ### Refusals (R171) -/

theorem pairOf_eq_some {b : Byte} {p : Pair} (h : pairOf b = some p) : b = pairByte p := by
  unfold pairOf at h
  split at h <;> cases h <;> exact BitVec.eq_of_toNat_eq ‹_›

/-- Settles O13: the TYPE by `Frame.parse_unknownType_iff`, the two refusals of the port by `State.handleFrame`, and those of
the owners by `requestOwner_handled`. -/
theorem refusedRequestsChangeNothing : Obligations.RefusedRequestsChangeNothing := by
  refine ⟨⟨fun typ tag payload => Frame.parse_unknownType_iff _, fun tag typ payload s hs => ⟨fun h => ?_, fun h => ?_⟩⟩,
    fun tag r s htrace hdue hr => ?_⟩
  · refine (live_running hs.running (·.arrive _)).trans ?_
    rw [hs.arrive, State.handleFrame_unknownType h, answer_transmit_eq]
    rfl
  · refine (live_running hs.running (·.arrive _)).trans ?_
    rw [hs.arrive, State.handleFrame_badLength h, answer_transmit_eq]
    rfl
  · refine (requestOwner_handled tag r s).refused ?_ hr
    cases r with
    | readTrace p i => exact absurd rfl (htrace p i)
    | setPairMode n m =>
      intro hm p hp
      have disabled : Request.setPairMode n m = .setPairMode (pairByte p) 0 := by
        rw [pairOf_eq_some hp, show m = 0 from BitVec.eq_of_toNat_eq hm]
      exact Bool.eq_false_iff.mpr fun due => hdue p due disabled
    | _ => trivial

end Sys2Proof.Machine
end

section
/-! The frame receiver (R167 to R170, R182): a whole frame is read back from its bytes, its beginning is held, what is broken is
skipped, and a request row is its frame received. -/

namespace Sys2Proof.Machine

/-! ### What the bytes after a start byte are (R168, R169, R182) -/

theorem body_length (f : Frame) : f.body.length = f.payload.length + 4 := by
  unfold Frame.body
  rw [List.length_append, Nat.add_comm]
  rfl

/-- The value of LEN counts TYPE, TAG and payload. -/
theorem len_toNat {n : Nat} (h : n ≤ 1024) : (BitVec.ofNat 16 (n + 2)).toNat = n + 2 := by
  rw [BitVec.toNat_ofNat]
  exact Nat.mod_eq_of_lt (by omega)

/-- A frame that is whole: its CRC is right and it is taken (R168, R182). -/
theorem assemble_frame {f : Frame} (h : f.payload.length ≤ 1024) :
    assemble (f.body ++ be16 (crc16 f.body)) = .good f (f.payload.length + 7) := by
  have body : (f.payload.length + 2) + 2 = f.body.length := (body_length f).symm
  have covered : (f.body ++ be16 (crc16 f.body)).take (f.payload.length + 2 + 2) = f.body := List.take_left' body.symm
  have check : (f.body ++ be16 (crc16 f.body)).drop (f.payload.length + 2 + 2) = be16 (crc16 f.body) :=
    List.drop_left' body.symm
  have whole : (f.body ++ be16 (crc16 f.body)).length = f.payload.length + 2 + 4 := by
    rw [List.length_append, body_length]
    rfl
  have examined : assemble (f.body ++ be16 (crc16 f.body))
      = assembleBody (f.payload.length + 2) (f.body ++ be16 (crc16 f.body)) := by
    show (if _ then _ else _) = _
    rw [half_be16, len_toNat h, if_neg (by omega)]
  rw [examined, assembleBody, if_neg (by rw [whole]; exact Nat.lt_irrefl _), covered, check,
    if_pos (List.take_of_length_le (Nat.le_refl 2))]
  show Assembly.good ⟨f.typ, f.tag, (f.payload ++ be16 (crc16 f.body)).take f.payload.length⟩ _ = _
  rw [List.take_left' rfl]

/-- What is held: less than LEN, or a valid LEN and less than it counts (R168). -/
theorem assemble_incomplete_iff {bs : List Byte} : assemble bs = .incomplete ↔
    bs.length < 2 ∨ ∃ hi lo rest, bs = hi :: lo :: rest ∧ 2 ≤ (half hi lo).toNat ∧ (half hi lo).toNat ≤ 1026
      ∧ bs.length < (half hi lo).toNat + 4 := by
  match bs with
  | [] => exact iff_of_true rfl (.inl (Nat.zero_lt_succ 1))
  | [_] => exact iff_of_true rfl (.inl (Nat.lt_succ_self 1))
  | hi :: lo :: rest =>
    have long : ¬(hi :: lo :: rest).length < 2 := by simp
    rw [or_iff_right long]
    show (if _ then _ else _) = _ ↔ _
    generalize hlen : (half hi lo).toNat = len
    constructor
    · intro h
      split at h
      · cases h
      next valid =>
        refine ⟨hi, lo, rest, rfl, by omega, by omega, ?_⟩
        rw [hlen]
        unfold assembleBody at h
        split at h
        next short => exact short
        next enough =>
          split at h
          · split at h
            · cases h
            next short =>
              match rest with
              | typ :: tag :: rest => exact absurd rfl (short typ tag rest)
              | [] | [_] => exact absurd enough (by simp)
          · cases h
    · rintro ⟨_, _, _, ⟨⟩, lo2, hi2, short⟩
      rw [hlen] at lo2 hi2 short
      rw [if_neg (by omega), assembleBody, if_pos short]

/-- The beginning of bytes that are held is held. -/
theorem assemble_beginning {xs ys : List Byte} (h : assemble (xs ++ ys) = .incomplete) : assemble xs = .incomplete := by
  rw [assemble_incomplete_iff] at h ⊢
  match xs with
  | [] => exact .inl (Nat.zero_lt_succ 1)
  | [_] => exact .inl (Nat.lt_succ_self 1)
  | hi :: lo :: rest =>
    rcases h with h | ⟨_, _, _, ⟨⟩, lo2, hi2, short⟩
    · simp at h
    · rw [List.length_append] at short
      exact .inr ⟨hi, lo, rest, rfl, lo2, hi2, by omega⟩

/-- A frame of which bytes are missing is held. -/
theorem assemble_of_missing {f : Frame} (h : f.payload.length ≤ 1024) {xs ys : List Byte}
    (hw : xs ++ ys = f.body ++ be16 (crc16 f.body)) (hy : ys ≠ []) : assemble xs = .incomplete := by
  have missing : xs.length < f.payload.length + 2 + 4 := by
    have whole := congrArg List.length hw
    rw [List.length_append, List.length_append, body_length] at whole
    have := List.length_pos_iff.mpr hy
    have crc : (be16 (crc16 f.body)).length = 2 := rfl
    omega
  rw [assemble_incomplete_iff]
  match xs with
  | [] => exact .inl (Nat.zero_lt_succ 1)
  | [_] => exact .inl (Nat.lt_succ_self 1)
  | hi :: lo :: rest =>
    obtain ⟨rfl, rfl, _⟩ : hi = _ ∧ lo = _ ∧ rest ++ ys = _ := by
      obtain ⟨h1, h2⟩ := List.cons.inj hw
      exact ⟨h1, List.cons.inj h2⟩
    refine .inr ⟨_, _, rest, rfl, ?_⟩
    rw [half_be16, len_toNat h]
    exact ⟨by omega, by omega, missing⟩

/-! ### Bytes that the receiver takes (R168, R169) -/

/-- The state with other bytes held. -/
def State.holding (s : State) (x : List HeldByte) : State := { s with port := { s.port with rx := x } }

section
variable {s : State}

theorem State.holding_self {x : List HeldByte} (h : s.port.rx = x) : s.holding x = s := by subst h; rfl

/-- The held bytes play no part in the choice of the next frame (R172). -/
theorem State.holding_transmit (x : List HeldByte) : (s.holding x).transmit = s.transmit.holding x := by
  by_cases h : s.port.tx = .idle ∧ s.port.resetPhase ≠ .due
  · obtain ⟨ht, hp⟩ := h
    cases hr : s.port.replies with
    | cons r rest => rw [State.transmit_reply ht hp hr, State.transmit_reply (s := s.holding x) ht hp hr]; rfl
    | nil =>
      cases hn : s.port.noticePending with
      | true => rw [State.transmit_notice ht hp hr hn, State.transmit_notice (s := s.holding x) ht hp hr hn]; rfl
      | false =>
        cases hq : s.queue.find? QueueEntry.noticeDue with
        | some e => rw [State.transmit_found ht hp hr hn hq, State.transmit_found (s := s.holding x) ht hp hr hn hq]; rfl
        | none => rw [State.transmit_none ht hp hr hn hq, State.transmit_none (s := s.holding x) ht hp hr hn hq]
  · rw [State.transmit, State.transmit, if_neg h]
    exact if_neg h

theorem State.receive_nil (fuel : Nat) (s : State) : State.receive fuel [] s = s.holding [] := by cases fuel <;> rfl

/-- Bytes before a start byte are dropped (R168). -/
theorem State.receive_skip {junk : List HeldByte} (h : ∀ x ∈ junk, x.byte ≠ 0xA5) (fuel : Nat) (rest : List HeldByte)
    (s : State) : State.receive (junk.length + fuel) (junk ++ rest) s = State.receive fuel rest s := by
  induction junk with
  | nil => rw [List.length_nil, Nat.zero_add, List.nil_append]
  | cons x xs ih =>
    rw [List.length_cons, Nat.add_right_comm, List.cons_append, State.receive_drop (h x List.mem_cons_self)]
    exact ih fun y hy => h y (List.mem_cons_of_mem _ hy)

/-- A whole frame is completed, however old its bytes are (R168, R170). -/
theorem State.receive_wire {f : Frame} (h : f.payload.length ≤ 1024) {bytes : List HeldByte}
    (hb : bytes.map (·.byte) = f.wire) (s : State) :
    State.receive bytes.length bytes s = (s.completeFrame f).holding [] := by
  cases bytes with
  | nil => cases hb
  | cons b rest =>
    obtain ⟨start, tail⟩ := List.cons.inj hb
    have used : rest.drop (f.payload.length + 7 - 1) = [] := by
      have length := congrArg List.length hb
      rw [List.length_map, wire_length, List.length_cons] at length
      exact List.drop_eq_nil_of_le (by omega)
    rw [List.length_cons, State.receive_good start ((congrArg assemble tail).trans (assemble_frame h)), used,
      State.receive_nil]

theorem State.rescan_empty (h : s.port.rx = []) : s.rescan [] = s := by
  unfold State.rescan
  rw [h]
  exact State.holding_self h

theorem State.rescan_fresh (h : s.port.rx = []) (cs : List Character) :
    s.rescan (fresh cs) = State.receive (fresh cs).length (fresh cs) s := by
  unfold State.rescan
  rw [h, List.length_nil, Nat.zero_add, List.nil_append]

/-- The beginning of a frame stays held, with what is new behind it (R168). -/
theorem State.rescan_hold {age : Nat} {rest new : List HeldByte} (h : s.port.rx = ⟨0xA5, age⟩ :: rest) (hage : age < 1024)
    (ha : assemble ((rest ++ new).map (·.byte)) = .incomplete) : s.rescan new = s.holding (s.port.rx ++ new) := by
  unfold State.rescan
  rw [h, List.length_cons, Nat.add_right_comm, List.cons_append, State.receive_hold rfl ha hage]
  rfl

theorem exec_frameReceived (hs : s.inReset = false) (cs : List Character) :
    exec (.frameReceived cs) s = .next ((s.rescan []).rescan (fresh cs)).transmit :=
  live_running hs fun s => (s.rescan []).rescan (fresh cs)

/-! ### A frame that is completed (R170, R171) -/

theorem State.arrive_rx (s : State) (f : Frame) : (s.arrive f).port.rx = s.port.rx := by
  unfold State.arrive
  split
  · unfold State.handleFrame
    split
    · rfl
    · rfl
    next r _ => exact (requestOwner_handled f.tag r s).rx
  · unfold State.joinRequests
    split
    · rfl
    · exact State.setPartFlag_port_rx ..

theorem State.mayTake_joinRequests (f : Frame) : (s.joinRequests f).mayTake = s.mayTake := by
  unfold State.joinRequests
  split
  · rfl
  · unfold State.mayTake
    rw [State.setPartFlag_port_replies, State.setPartFlag_port_resetPhase]

/-- A received frame that joins the request queue and is taken from it at once has arrived as a row does (log entry 1). -/
theorem State.completeFrame_eq (h : s.mayTake = true → s.port.requests = []) (f : Frame) :
    s.completeFrame f = (s.arrive f).transmit := by
  unfold State.completeFrame State.arrive
  cases hm : s.mayTake with
  | true =>
    have empty := h hm
    have joined : (s.joinRequests f).port.requests = [f] := by
      rw [State.joinRequests_room (by rw [empty]; exact Nat.zero_lt_succ 3), empty]
      rfl
    have popped : ({ s.joinRequests f with port := { (s.joinRequests f).port with requests := [] } } : State) = s := by
      rw [State.joinRequests_room (by rw [empty]; exact Nat.zero_lt_succ 3), ← empty]
    rw [State.takeRequests_cons ((State.mayTake_joinRequests f).trans hm) joined, popped, empty]
    rfl
  | false =>
    rw [State.takeRequests_held ((State.mayTake_joinRequests f).trans hm), Bool.false_and, if_neg Bool.false_ne_true]

end

/-! ### A request row is its frame received (log entry 1) -/

theorem Request.payload_length_le {r : Request} (h : r.fits = true) : r.payload.length ≤ 1024 := by
  cases r with
  | setTime seconds fraction => cases fraction <;> exact Nat.le_of_ble_eq_true rfl
  | clearEvents sel => exact (of_decide_eq_true h : sel.length = 9).trans_le (by decide)
  | setNoticeMask m => exact (of_decide_eq_true h : m.length = 12).trans_le (by decide)
  | configurePair p ps =>
    have params : ps.length = 32 := of_decide_eq_true h
    show (ps.flatMap be32).length + 1 ≤ 1024
    rw [length_flatMap_be32, params]
    decide
  | loadRepeaters p f rs =>
    have records : rs.length ≤ 16 := of_decide_eq_true h
    show (rs.flatMap LoadRecord.encode).length + 3 ≤ 1024
    rw [length_flatMap_encode]
    omega
  | _ => exact Nat.le_of_ble_eq_true rfl

theorem fits_of_wellFormed {c : Instr} {tag : Byte} {r : Request} (hc : asRequest c = some (tag, r))
    (hw : c.wellFormed = true) : r.fits = true := by
  cases c with
  | clearEvents t sel => cases hc; exact hw
  | setNoticeMask t m => cases hc; exact hw
  | configurePair t p ps => cases hc; exact hw
  | loadRepeaters t p f rs => cases hc; exact hw
  | _ => cases hc <;> rfl

/-- The row of a fitting request is the arrival of its frame. -/
theorem exec_arrives {c : Instr} {tag : Byte} {r : Request} {s : State} (hc : asRequest c = some (tag, r))
    (hf : r.fits = true) (hs : s.inReset = false) : exec c s = .next (s.arrive (r.frame tag)).transmit := by
  have taken : s.handleWith tag r (requestOwner tag r) = s.handleFrame (r.frame tag) := by
    rw [State.handleFrame_request (Request.parse_frame tag hf)]
    exact congrArg (State.answer r.typ tag) (if_pos hf)
  rw [exec_request hc hs, taken]
  rfl

/-- Settles O4: the characters are read back as the frame (`State.receive_wire`), which arrives as the row does
(`State.completeFrame_eq`, `exec_arrives`). -/
theorem requestRowIsItsFrameReceived : Obligations.RequestRowIsItsFrameReceived := by
  intro c tag r cs s hc hw hrx hnone hcs
  have hf := fits_of_wellFormed hc hw
  cases hs : s.inReset with
  | true =>
    rw [exec_eq_request hc]
    exact (live_held hs fun s => (s.rescan []).rescan (fresh cs)).trans (live_held hs _).symm
  | false =>
    have bytes : (fresh cs).map (·.byte) = (r.frame tag).wire := (fresh_bytes cs).trans hcs
    have still : (s.arrive (r.frame tag)).transmit.port.rx = [] := by rw [State.transmit_port_rx, State.arrive_rx, hrx]
    rw [exec_frameReceived hs, State.rescan_empty hrx, State.rescan_fresh hrx,
      State.receive_wire (Request.payload_length_le hf) bytes, State.completeFrame_eq hnone, State.holding_self still,
      State.transmit_transmit, exec_arrives hc hf hs]

/-! ### Broken and incomplete frames (R168, R169) -/

theorem State.Ready.arrive_readTime {s : State} (h : s.Ready) (tag : Byte) :
    (s.arrive (Request.frame tag .readTime)).transmit
      = s.replied 0x85 tag (0 :: (be32 s.time.seconds ++ u16 s.time.fraction)) := by
  rw [h.arrive, State.handleFrame_request (r := .readTime) rfl]
  rfl

theorem State.Ready.completeFrame_readTime {s : State} (h : s.Ready) (tag : Byte) :
    s.completeFrame (Request.frame tag .readTime)
      = s.replied 0x85 tag (0 :: (be32 s.time.seconds ++ u16 s.time.fraction)) := by
  rw [State.completeFrame_eq fun _ => h.noRequest, h.arrive_readTime]

@[simp] theorem State.replied_transmit (s : State) (typ tag : Byte) (data : List Byte) :
    (s.replied typ tag data).transmit = s.replied typ tag data := State.transmit_transmit _

theorem State.holding_replied (s : State) (x : List HeldByte) (typ tag : Byte) (data : List Byte) :
    (s.holding x).replied typ tag data = (s.replied typ tag data).holding x :=
  State.holding_transmit (s := { s with port := { s.port with replies := s.port.replies ++ [⟨typ, tag, data⟩] } }) x

/-- A part stays ready through the discard of a broken frame. -/
theorem State.Ready.discardFrame {s : State} (h : s.Ready) : s.discardFrame.Ready where
  running := by rw [State.discardFrame, State.transmit_inReset, State.setPartFlag_inReset, h.running]
  noReset := by rw [State.discardFrame, State.transmit_port_resetPhase, State.setPartFlag_port_resetPhase, h.noReset]
  noRequest := by rw [State.discardFrame, State.transmit_port_requests, State.setPartFlag_port_requests, h.noRequest]
  room := by rw [State.discardFrame, State.transmit_port_replies, State.setPartFlag_port_replies]; exact h.room

theorem readTime_payload (tag : Byte) : (Request.frame tag .readTime).payload.length ≤ 1024 := Nat.zero_le 1024

section
variable {s : State}

/-- An incomplete frame over its age goes with all its bytes, where none of them starts another (R168, R169). -/
theorem State.rescan_expired {b : HeldByte} {rest : List HeldByte} (hrx : s.port.rx = b :: rest) (hb : b.byte = 0xA5)
    (hage : 1024 ≤ b.age) (ha : assemble (rest.map (·.byte)) = .incomplete) (hrest : ∀ x ∈ rest, x.byte ≠ 0xA5) :
    s.rescan [] = s.discardFrame.holding [] := by
  have skipped := State.receive_skip hrest 0 [] s.discardFrame
  rw [List.append_nil, Nat.add_zero, State.receive_nil] at skipped
  rw [State.rescan, hrx, List.append_nil, List.length_nil, Nat.add_zero, List.length_cons,
    State.receive_expired hb ha hage, skipped]

/-- The good frame behind a broken one is found and served (R169). -/
theorem exec_frameReceived_broken (hs : s.Ready) (hrx : s.port.rx = []) {junk : List Byte} (hjunk : ∀ x ∈ junk, x ≠ 0xA5)
    {tag : Byte} (ha : assemble (junk ++ (Request.frame tag .readTime).wire) = .bad) {cs : List Character}
    (hcs : cs.map (·.data) = 0xA5 :: junk ++ (Request.frame tag .readTime).wire) : exec (.frameReceived cs) s = .next
      (s.discardFrame.replied 0x85 tag (0 :: (be32 s.time.seconds ++ u16 s.time.fraction))) := by
  have still : s.discardFrame.port.rx = [] := by
    rw [State.discardFrame, State.transmit_port_rx, State.setPartFlag_port_rx, hrx]
  have time : s.discardFrame.time = s.time := by rw [State.discardFrame, State.transmit_time, State.setPartFlag_time]
  obtain ⟨first, rest, hfresh, hfirst, hrest⟩ := List.map_eq_cons_iff.mp ((fresh_bytes cs).trans hcs)
  obtain ⟨before, frame, rfl, rfl, hframe⟩ := List.map_eq_append_iff.mp hrest
  have bad : assemble ((before ++ frame).map (·.byte)) = .bad := by rw [List.map_append, hframe, ha]
  rw [exec_frameReceived hs.running, State.rescan_empty hrx, State.rescan_fresh hrx, hfresh, List.length_cons,
    State.receive_bad hfirst bad, List.length_append, State.receive_skip fun x hx => hjunk _ (List.mem_map_of_mem hx),
    State.receive_wire (readTime_payload tag) hframe, hs.discardFrame.completeFrame_readTime, ← State.holding_replied,
    State.holding_self still, State.replied_transmit, time]

/-- Characters before a start byte are dropped (R168). -/
theorem exec_frameReceived_noise (hs : s.inReset = false) (hrx : s.port.rx = []) {cs : List Character}
    (hcs : ∀ c ∈ cs, c.data ≠ 0xA5) : exec (.frameReceived cs) s = .next s.transmit := by
  have skipped := State.receive_skip (junk := fresh cs) (by simpa [fresh] using hcs) 0 [] s
  rw [List.append_nil, Nat.add_zero, State.receive_nil, State.holding_self hrx] at skipped
  rw [exec_frameReceived hs, State.rescan_empty hrx, State.rescan_fresh hrx, skipped]

/-- The beginning of a frame is held (R168). -/
theorem exec_frameReceived_begins (hs : s.inReset = false) (hrx : s.port.rx = []) (stop : Bool) {cs : List Character}
    (ha : assemble (cs.map (·.data)) = .incomplete) :
    exec (.frameReceived (⟨0xA5, stop⟩ :: cs)) s = .next (s.holding (⟨0xA5, 0⟩ :: fresh cs)).transmit := by
  have held : State.receive (fresh (⟨0xA5, stop⟩ :: cs)).length (fresh (⟨0xA5, stop⟩ :: cs)) s
      = s.holding (⟨0xA5, 0⟩ :: fresh cs) :=
    State.receive_hold rfl ((congrArg assemble (fresh_bytes cs)).trans ha) (Nat.zero_lt_succ _) _ s
  rw [exec_frameReceived hs, State.rescan_empty hrx, State.rescan_fresh hrx, held]

/-- Held bytes that make no whole frame and are not over their age stay held. -/
theorem State.rescan_waiting {age : Nat} {rest : List HeldByte} (hrx : s.port.rx = ⟨0xA5, age⟩ :: rest) (hage : age < 1024)
    (ha : assemble (rest.map (·.byte)) = .incomplete) : s.rescan [] = s := by
  rw [State.rescan_hold hrx hage (by rwa [List.append_nil]), List.append_nil]
  exact State.holding_self rfl

/-- What follows the beginning of a frame is held behind it (R168). -/
theorem exec_frameReceived_continues (hs : s.inReset = false) {age : Nat} {rest : List HeldByte}
    (hrx : s.port.rx = ⟨0xA5, age⟩ :: rest) (hage : age < 1024) {cs : List Character}
    (ha : assemble (rest.map (·.byte) ++ cs.map (·.data)) = .incomplete) :
    exec (.frameReceived cs) s = .next (s.holding (s.port.rx ++ fresh cs)).transmit := by
  have bytes : (rest ++ fresh cs).map (·.byte) = rest.map (·.byte) ++ cs.map (·.data) := by
    rw [List.map_append, fresh_bytes]
  rw [exec_frameReceived hs, State.rescan_waiting hrx hage (assemble_beginning ha),
    State.rescan_hold hrx hage ((congrArg assemble bytes).trans ha)]

/-- The last character of a good frame lets its request be served (R168, R170). -/
theorem exec_frameReceived_completes (hs : s.Ready) {cs : List Character} (hne : cs ≠ [])
    (hages : ∀ b ∈ s.port.rx, b.age < 1024) {tag : Byte}
    (hw : s.port.rx.map (·.byte) ++ cs.map (·.data) = (Request.frame tag .readTime).wire) : exec (.frameReceived cs) s = .next
      ((s.holding []).replied 0x85 tag (0 :: (be32 s.time.seconds ++ u16 s.time.fraction))) := by
  have waits : s.rescan [] = s := by
    match hrx : s.port.rx with
    | [] => exact State.rescan_empty hrx
    | ⟨start, age⟩ :: rest =>
      rw [hrx] at hw hages
      obtain ⟨rfl, tail⟩ := List.cons.inj hw
      exact State.rescan_waiting hrx (hages _ List.mem_cons_self)
        (assemble_of_missing (readTime_payload tag) tail (by simpa using hne))
  have bytes : (s.port.rx ++ fresh cs).map (·.byte) = (Request.frame tag .readTime).wire := by
    rw [List.map_append, fresh_bytes, hw]
  rw [exec_frameReceived hs.running, waits, State.rescan, ← List.length_append,
    State.receive_wire (readTime_payload tag) bytes, hs.completeFrame_readTime, ← State.holding_replied,
    State.replied_transmit]

end

/-- Settles O18: one lemma for each thing that can become of the bytes, from `State.rescan_expired` to
`exec_frameReceived_completes`. -/
theorem brokenFramesAreSkipped : Obligations.BrokenFramesAreSkipped := by
  refine ⟨fun b rest s hs hrx hb hage ha hrest => ⟨_, live_running hs (·.rescan []), ?_⟩,
    fun junk tag cs s hs hrx hjunk ha hcs => exec_frameReceived_broken hs hrx hjunk ha hcs, fun cs s hs =>
    ⟨fun hrx hcs => exec_frameReceived_noise hs hrx hcs, fun stop hrx ha => exec_frameReceived_begins hs hrx stop ha,
      fun age rest hrx hage ha => exec_frameReceived_continues hs hrx hage ha,
      fun tag hready hne hages hw => exec_frameReceived_completes hready hne hages hw⟩⟩
  rw [State.rescan_expired hrx hb hage ha hrest, State.holding_transmit, State.discardFrame, State.transmit_transmit]
  simp only [State.holding, State.transmit_port_flags, State.transmit_port_requests, State.transmit_port_replies,
    State.transmit_pairs, State.setPartFlag_port_requests, State.setPartFlag_port_replies, State.setPartFlag_pairs]
  exact ⟨trivial, rfl, trivial, trivial, rfl, trivial⟩

end Sys2Proof.Machine
end

section
/-! Frames, flag selections and notice masks read back as what they were formed from (R183, R186, R191). -/

namespace Sys2Proof.Machine

/-- Settles O3: a fitting request is read back from its frame request by request (`Request.parse_frame`), a selection and
a mask from the bits of their bytes (`selectionOf_encode`, `maskOf_encode`). -/
theorem frameParsesToItsRequest : Obligations.FrameParsesToItsRequest :=
  ⟨fun tag _ fits => Request.parse_frame tag fits, selectionOf_encode, maskOf_encode⟩

end Sys2Proof.Machine
end

section
/-! The step reads the front of the queue. -/

namespace Sys2Proof.Machine

/-- The rule of a step by the shape of the queue: a queue with a front command hands that command and its rest to `exec`. -/
theorem step_of_pending {s : State} {c : Instr} {rest : List Instr} (front : s.pending = c :: rest) :
    step s = exec c { s with pending := rest } := by
  rw [step, front]

/-- Settles O1: the queue of the state shows its front command (`step_of_pending`). -/
theorem stepRunsFrontCommand : Obligations.StepRunsFrontCommand :=
  fun _ _ _ => step_of_pending rfl

end Sys2Proof.Machine
end
